-- ==== Sys2Proof/Word.lean ====
section
/-! DEFINITION. The word types of the machine (spec/00_scope.md R6): a memory word, an address, an
extended-precision register. -/

namespace Sys2Proof

/-- A memory word, and the width of every register but R0 to R7 (R6 `WORD`, D4 `REG_WIDTH_OTHER`). -/
abbrev Word := BitVec 32

/-- A word address (R6 `ADDR`). -/
abbrev Addr := BitVec 24

/-- The contents of one of R0 to R7 (R22). -/
abbrev Ext := BitVec 40

/-- The number of an extended-precision register R0 to R7. -/
abbrev Rn := Fin 8

/-- The number of an auxiliary register AR0 to AR7. -/
abbrev ARn := Fin 8

end Sys2Proof
end

