-- ==== Sys2Proof/Config.lean ====
section
/-! DEFINITION. What the spec leaves to the implementation or to the model's caller: the types of the
parameters of spec/00_scope.md R7 (their values stand in `State.params`), and the free values, opaque
constants that nothing in Lean can evaluate. -/

namespace Sys2Proof

/-- The kinds of `MemMap` (R62). -/
inductive RegionKind where
  | internalRam | externalStrb | externalMstrb | externalIostrb | peripheral | unmapped
  deriving DecidableEq, Repr

/-- A run of word addresses of one kind; `MemMap` is a list of these, the first that holds an address
decides, and an address that none holds is unmapped (R62). -/
structure Region where
  base : Nat
  size : Nat
  kind : RegionKind
  deriving DecidableEq, Repr

/-- `ARAU_WIDTH` (R199, D6). -/
inductive ArauWidth where
  | w24 | w32
  deriving DecidableEq, Repr

/-- `ParallelSubOrder` (R455, D34). -/
inductive SubOrder where
  | source | vendor
  deriving DecidableEq, Repr

/-- `BranchDispBase` (R102, D16): the constant k of each branch's displacement. -/
structure BranchBase where
  bcond    : Nat
  bcondD   : Nat
  callcond : Nat
  dbcond   : Nat
  dbcondD  : Nat
  deriving DecidableEq, Repr

/-- `IntVector(i)` (R476): an address, or the memory word that holds it. -/
inductive VectorRef where
  | fixed (a : Addr)
  | cell (a : Addr)
  deriving DecidableEq, Repr

/-- `TrapVector` (R472): a list of addresses, or a table of memory words, one for each trap number. -/
inductive TrapTable where
  | fixed (addresses : List Addr)
  | cells (base : Addr)
  deriving DecidableEq, Repr

/-- A run of addresses: those of the program (R75), or those that the interlock protects (R73). -/
structure Extent where
  base : Nat
  size : Nat
  deriving DecidableEq, Repr

/-- What an instruction does with one flag: the entries "-", "0", "w" and "acc" of the table of R174. -/
inductive FlagEffect where
  | keep | clear | write | accumulate
  deriving DecidableEq, Repr

/-- A row of the table of R174. `always` is its last column: the flags are written whatever the destination is;
`cAlways` says so of C alone. -/
structure FlagRow where
  c       : FlagEffect
  v       : FlagEffect
  z       : FlagEffect
  n       : FlagEffect
  uf      : FlagEffect
  lv      : FlagEffect
  luf     : FlagEffect
  always  : Bool
  cAlways : Bool
  deriving DecidableEq, Repr

/-- The classes of R174 that write a flag. The first half of an operation with a store has the class of the
operation (PAR_ARITH); the classes NONE and PAR_MOVE write none. -/
inductive FlagClass where
  | cmpInt | cmpFlt | test | rot | loadInt | loadFlt | arithInt | absInt | mulInt | logic | shift | arithFlt | fix
  | mpyAdd
  deriving DecidableEq, Repr

/-- `FlagPolicy` (R174, D8): the row of each class. -/
structure FlagPolicy where
  cmpInt   : FlagRow
  cmpFlt   : FlagRow
  test     : FlagRow
  rot      : FlagRow
  loadInt  : FlagRow
  loadFlt  : FlagRow
  arithInt : FlagRow
  absInt   : FlagRow
  mulInt   : FlagRow
  logic    : FlagRow
  shift    : FlagRow
  arithFlt : FlagRow
  fix      : FlagRow
  mpyAdd   : FlagRow
  deriving DecidableEq, Repr

/-- `ST_LAYOUT` (R31, D8): the bit of each field of ST; every other bit is reserved. -/
structure StLayout where
  c   : Fin 32
  v   : Fin 32
  z   : Fin 32
  n   : Fin 32
  uf  : Fin 32
  lv  : Fin 32
  luf : Fin 32
  ovm : Fin 32
  rm  : Fin 32
  cf  : Fin 32
  ce  : Fin 32
  cc  : Fin 32
  gie : Fin 32
  deriving DecidableEq, Repr

/-- The parameters that `State.params` holds. No step changes them. `shiftBits` is `ShiftCount` (R163, D24): how
many low bits of the count operand are read, as a two's-complement number. `lockedData` is what the arbiter of the board
protects for the holder of the interlock (R73, R76; log 50). -/
structure Params where
  arauWidth        : ArauWidth
  parallelSubOrder : SubOrder
  branchBase       : BranchBase
  flagPolicy       : FlagPolicy
  stLayout         : StLayout
  shiftBits        : Nat
  lc31LowPower     : Bool
  trapMax          : Nat
  trapTable        : TrapTable
  memMap           : List Region
  programText      : List Extent
  lockedData       : List Extent
  deriving DecidableEq, Repr

/-- The functions of the record `FloatArith` that return a float (R166). -/
inductive FloatOp where
  | add | sub | mul | neg | abs | norm | rnd
  deriving DecidableEq, Repr

/-- Free value: `draw(32 bits)` number n (R10; log 15). -/
opaque Config.freeWord : Nat → Word

/-- Free value: `draw` of one of two, number n (R10; log 15). -/
opaque Config.freeBit : Nat → Bool

/-- Free value: the pattern of a float result that R166 does not fix, a function of the operands
(log 17, 18, 20). -/
opaque Config.floatBits : FloatOp → Ext → Ext → Ext

/-- Free value: the number m · 2^k from which on an operation's exact results are returned as that pattern or a
greater one (R166 P5; log 16, 19). -/
opaque Config.floatCut : FloatOp → Ext → Int × Int

/-- Free value: whether an exact result at a cut counts as beyond it (R166 P5; log 16). -/
opaque Config.floatTie : FloatOp → Ext → Ext → Bool

/-- Free value: whether a product equal to a single-format number, of operands that P1 does not cover, is returned
from the numbers below it or from those above (R166 P5; log 19). -/
opaque Config.floatBelow : Ext → Ext → Bool

/-- Free value: V' of a float result outside P1 (R166; log 16). -/
opaque Config.floatV : FloatOp → Ext → Ext → Bool

/-- Free value: UF' of a float result outside P1 (R166; log 16). -/
opaque Config.floatUF : FloatOp → Ext → Ext → Bool

/-- Free value: the number m · 2^k from which on FIX of a value between an integer and the next gives the next
(R341, R166 P5; log 21). -/
opaque Config.fixCut : Int → Int × Int

/-- Free value: FIX of a value outside the 32-bit range (R341; log 21). -/
opaque Config.fixBits : Ext → Word

end Sys2Proof
end

