-- ==== Sys2Proof/Machine/Bits.lean ====
section
/-! DEFINITION. Bit fields, widenings and the views of a 40-bit register. -/

namespace Sys2Proof.Machine

/-- The 24 LSBs of a 32-bit value, as an address (R24, R29, R350). -/
def low24 (w : Word) : Addr := w.setWidth 24

/-- `zext_32` of an address (R364, R375). -/
def zext32 (a : Addr) : Word := a.setWidth 32

/-- How a 16-bit integer immediate is widened (R100, `ImmExt`). -/
inductive ImmExt where
  | signed | unsigned
  deriving DecidableEq, Repr

/-- A 16-bit integer immediate as 32 bits (R100). -/
def widenImm (e : ImmExt) (k : BitVec 16) : Word :=
  match e with
  | .signed => k.signExtend 32
  | .unsigned => k.setWidth 32

/-- `int(Rn)`: bits 31 to 0 (R23, D5). -/
def intView (x : Ext) : Word := x.setWidth 32

/-- The integer write to R0 to R7: bits 39 to 32 stay (R23, `INT_WRITE_R_HIGH`; log 30). -/
def withInt (x : Ext) (v : Word) : Ext := x.extractLsb' 32 8 ++ v

/-- The exponent field of an extended float (R147). -/
def expField (x : Ext) : BitVec 8 := x.extractLsb' 32 8

/-- The mantissa of an extended float: sign and fraction (R156). -/
def mantField (x : Ext) : Word := x.extractLsb' 0 32

/-- Single to extended (R152). -/
def widen (w : Word) : Ext := w ++ 0#8

/-- Extended to single: the low 8 fraction bits are dropped (R153, D27). -/
def narrow (x : Ext) : Word := x.extractLsb' 8 32

/-- The zero that R149 calls the hardware's. -/
def floatZero : Ext := 0x8000000000#40

/-- Short to extended (R145, R151). -/
def widenShort (k : BitVec 16) : Ext :=
  if k.extractLsb' 12 4 = 8#4 then floatZero
  else (k.extractLsb' 12 4).signExtend 8 ++ k.extractLsb' 0 12 ++ 0#20

end Sys2Proof.Machine
end

