-- ==== Sys2Proof/Machine/FloatArith.lean ====
section
/-! DEFINITION. The record `FloatArith` of spec/40_data_formats_and_flags.md R166: exact where its properties
fix the result, a free value of Config where they do not (log 16 to 21). -/

namespace Sys2Proof.Machine

/-! ## Values -/

/-- Zero is any pattern with the most negative exponent (R149). -/
def isZeroF (x : Ext) : Bool := expField x == 0x80#8

/-- `valF(p) < 0` (R173). -/
def isNegF (x : Ext) : Bool := !isZeroF x && (mantField x).msb

/-- The value function of the extended format (R148). -/
def valF (x : Ext) : ℚ :=
  let e := (expField x).toInt
  let f : ℚ := (x.extractLsb' 0 31).toNat
  if e = -128 then 0
  else if x.getLsbD 31 then (-2 + f / 2 ^ 31) * 2 ^ e
  else (1 + f / 2 ^ 31) * 2 ^ e

/-- A number m · 2^k, exactly. -/
structure Dy where
  m : Int
  k : Int
  deriving DecidableEq, Repr

/-- The number a dyadic is. -/
def Dy.val (d : Dy) : ℚ := d.m * 2 ^ d.k

/-- The mantissa with its implied bit, in units of 2^-31 (R148, last sentence but one). -/
def mantInt (x : Ext) : Int :=
  if (mantField x).msb then (mantField x).toInt - 2 ^ 31 else (mantField x).toInt + 2 ^ 31

/-- The value of a pattern, exactly (R148). -/
def dyOf (x : Ext) : Dy :=
  if isZeroF x then ⟨0, 0⟩ else ⟨mantInt x, (expField x).toInt - 31⟩

def Dy.add (a b : Dy) : Dy :=
  let k := min a.k b.k
  ⟨a.m * 2 ^ (a.k - k).toNat + b.m * 2 ^ (b.k - k).toNat, k⟩

def Dy.neg (a : Dy) : Dy := ⟨-a.m, a.k⟩

def Dy.abs (a : Dy) : Dy := ⟨a.m.natAbs, a.k⟩

def Dy.mul (a b : Dy) : Dy := ⟨a.m * b.m, a.k + b.k⟩

def Dy.lt (a b : Dy) : Bool := decide (0 < (b.add a.neg).m)

def Dy.eq (a b : Dy) : Bool := decide ((b.add a.neg).m = 0)

/-! ## The representable numbers around a number -/

/-- A representable number: zero, which has many patterns (R149), or the one pattern of a non-zero number. -/
inductive Point where
  | zero
  | pat (x : Ext)
  deriving DecidableEq, Repr

/-- The greatest representable number not above a number and the least not below it, where they exist, and
whether the number is representable itself (then `below` is it). -/
structure Bracket where
  below : Option Point
  above : Option Point
  exact : Bool
  deriving DecidableEq, Repr

/-- The pattern with mantissa q in units of 2^-p and exponent e, for p fraction bits (R148). -/
def packFloat (p : Nat) (q e : Int) : Ext :=
  let f := if q < 0 then q + 2 ^ p else q - 2 ^ p
  BitVec.ofInt 8 e ++ BitVec.ofInt 32 (f * 2 ^ (31 - p))

/-- The exponent at which m · 2^k has its mantissa in 1 to 2 or -2 to -1 (R148), for m not 0. -/
def normExp (d : Dy) : Int :=
  let l := Nat.log2 d.m.natAbs
  if d.m < 0 ∧ d.m.natAbs = 2 ^ l then d.k + l - 1 else d.k + l

/-- The number after the one with mantissa q and exponent e, in the format with p fraction bits. -/
def nextPoint (p : Nat) (q e : Int) : Option Point :=
  if q + 1 = 2 ^ (p + 1) then
    if e = 127 then none else some (.pat (packFloat p (2 ^ p) (e + 1)))
  else if q + 1 = -2 ^ p then
    if e = -127 then some .zero else some (.pat (packFloat p (-2 ^ (p + 1)) (e - 1)))
  else some (.pat (packFloat p (q + 1) e))

/-- The representable numbers around m · 2^k in the format with p fraction bits: 31 for extended, 23 for
single (R144, R148, R150). -/
def bracket (p : Nat) (d : Dy) : Bracket :=
  if d.m = 0 then ⟨some .zero, some .zero, true⟩
  else
    let e := normExp d
    if 127 < e then
      if 0 < d.m then ⟨some (.pat (packFloat p (2 ^ (p + 1) - 1) 127)), none, false⟩
      else ⟨none, some (.pat (packFloat p (-2 ^ (p + 1)) 127)), false⟩
    else if e < -127 then
      if 0 < d.m then ⟨some .zero, some (.pat (packFloat p (2 ^ p) (-127))), false⟩
      else ⟨some (.pat (packFloat p (-2 ^ p - 1) (-127))), some .zero, false⟩
    else
      let s := d.k - (e - p)
      let q := if 0 ≤ s then d.m * 2 ^ s.toNat else d.m / 2 ^ (-s).toNat
      let exact := decide (0 ≤ s) || d.m % 2 ^ (-s).toNat == 0
      ⟨some (.pat (packFloat p q e)), if exact then some (.pat (packFloat p q e)) else nextPoint p q e, exact⟩

/-! ## Results -/

/-- What a float operation returns: the pattern, V' and UF' (R166). -/
structure FltResult where
  value : Ext
  v     : Bool
  uf    : Bool
  deriving DecidableEq, Repr

/-- What FIX returns: the integer and V' (R166). -/
structure FixResult where
  value : Word
  v     : Bool
  deriving DecidableEq, Repr

/-- A pattern for a point. The mantissa of a zero result is a free value (R149, log 18); for RND its low 8 bits
are 0 (R344). -/
def realise (op : FloatOp) (a b : Ext) (pt : Point) : Ext :=
  match pt with
  | .pat x => x
  | .zero =>
    match op with
    | .rnd => 0x80#8 ++ (Config.floatBits op a b).extractLsb' 8 24 ++ 0#8
    | .add | .sub | .mul | .neg | .abs | .norm => 0x80#8 ++ (Config.floatBits op a b).extractLsb' 0 32

/-- The result is the exact number (P1). -/
def exactResult (op : FloatOp) (a b : Ext) (pt : Point) : FltResult := ⟨realise op a b pt, false, false⟩

/-- Every bit of the result is a free value (U16, U20). -/
def freeResult (op : FloatOp) (a b : Ext) : FltResult :=
  ⟨Config.floatBits op a b, Config.floatV op a b, Config.floatUF op a b⟩

/-- The number a point is. -/
def Point.exact (pt : Point) : Dy :=
  match pt with
  | .zero => ⟨0, 0⟩
  | .pat x => dyOf x

/-- The exact result d is returned as pt or a greater number, as far as pt's cut says (R166 P5; log 16). -/
def passesCut (op : FloatOp) (a b : Ext) (d : Dy) (pt : Point) : Bool :=
  let (m, k) := Config.floatCut op (match pt with | .zero => floatZero | .pat x => x)
  Dy.lt ⟨m, k⟩ d || Dy.eq ⟨m, k⟩ d && Config.floatTie op a b

/-- The point that is as many places above `lo` as there are points of a rising list that d passes: it rises with
d (P5). -/
def climb (passes : Point → Bool) (lo : Point) (above : List Point) : Point :=
  (lo :: above).getD (above.countP passes) lo

/-- One of the two neighbours, from the cut of the upper one; where only one exists, that one (P1 with P5;
log 16). -/
def chooseNear (op : FloatOp) (a b : Ext) (d : Dy) (br : Bracket) : Ext :=
  match br.below, br.above with
  | some lo, some hi => realise op a b (climb (passesCut op a b d) lo [hi])
  | some lo, none => realise op a b lo
  | none, some hi => realise op a b hi
  | none, none => Config.floatBits op a b

/-- The extended result of an exact number: the number where it is representable (P1), else a neighbour, with
V' and UF' free (log 16). -/
def roundExt (op : FloatOp) (a b : Ext) (d : Dy) : FltResult :=
  let br := bracket 31 d
  match br.exact, br.below with
  | true, some pt => exactResult op a b pt
  | _, _ => ⟨chooseNear op a b d br, Config.floatV op a b, Config.floatUF op a b⟩

/-- The value has a single-format pattern (R166, caveat on `mul`; R344). -/
def isSingle (x : Ext) : Bool := isZeroF x || x.extractLsb' 0 8 == 0#8

/-- `FloatArith.add` (R166). -/
def fadd (a b : Ext) : FltResult := roundExt .add a b ((dyOf a).add (dyOf b))

/-- `FloatArith.sub`, a − b (R166). -/
def fsub (a b : Ext) : FltResult := roundExt .sub a b ((dyOf a).add (dyOf b).neg)

/-- An integer without its factors 2, for numbers below 2^n. -/
def oddPart : Nat → Nat → Nat
  | 0, m => m
  | n + 1, m => if m % 2 = 0 then oddPart n (m / 2) else m

/-- The number is the product of two numbers of the single format, whose mantissas have 24 bits (and the smaller one
is below 2^16, as the product has 32): P1 fixes that product (log 19). -/
def isProduct (pt : Point) : Bool :=
  match pt with
  | .zero => true
  | .pat x =>
    let o := oddPart 32 (mantInt x).natAbs
    decide (∃ p, p < 2 ^ 16 ∧ (p ∣ o ∧ o / p < 2 ^ 24))

/-- The extended numbers above a number that is not zero, n of them or up to the greatest or to zero. -/
def pointsAbove : Nat → Ext → List Point
  | 0, _ => []
  | n + 1, x =>
    match nextPoint 31 (mantInt x) (expField x).toInt with
    | none => []
    | some .zero => [.zero]
    | some (.pat y) => .pat y :: pointsAbove n y

/-- The product d is returned as pt or a greater number: as pt's cut says, but with no product that P1 fixes (one of
`fixed`) on the wrong side of d (P1 with P5; log 19). -/
def passesMul (a b : Ext) (d : Dy) (fixed : List Point) (pt : Point) : Bool :=
  if passesCut .mul a b d pt then !fixed.any fun q => Dy.lt q.exact pt.exact && Dy.lt d q.exact
  else fixed.any fun q => !Dy.lt q.exact pt.exact && Dy.lt q.exact d

/-- A product that P1 does not fix: an extended number between its single-format neighbours, which are products
that P1 fixes, and rising with d (P5; log 19). -/
def chooseMul (a b : Ext) (d : Dy) : Ext :=
  let near := bracket 23 d
  let br := if near.exact && Config.floatBelow a b then bracket 23 (d.add ⟨-1, -400⟩) else near
  match br.below, br.above with
  | some (.pat x), _ =>
    let above := pointsAbove 256 x
    realise .mul a b (climb (passesMul a b d (above.filter isProduct)) (.pat x) above)
  | some .zero, some hi => realise .mul a b (climb (passesMul a b d ([hi].filter isProduct)) .zero [hi])
  | none, some hi => realise .mul a b hi
  | some .zero, none | none, none => Config.floatBits .mul a b

/-- `FloatArith.mul` (R166): exact for operands with single-format values when the product is representable,
and zero times anything is zero (R277); otherwise free within what P5 leaves (log 19). -/
def fmul (a b : Ext) : FltResult :=
  if isZeroF a || isZeroF b then exactResult .mul a b .zero
  else
    let d := (dyOf a).mul (dyOf b)
    let br := bracket 31 d
    match isSingle a && isSingle b && br.exact, br.below with
    | true, some pt => exactResult .mul a b pt
    | _, _ => ⟨chooseMul a b d, Config.floatV .mul a b, Config.floatUF .mul a b⟩

/-- The most negative float, −2 · 2^127 (R150). -/
def mostNegF : Ext := 0x7F80000000#40

/-- `FloatArith.neg` (R166 P4, U16; log 17). -/
def fneg (a : Ext) : FltResult :=
  if a = mostNegF then freeResult .neg a 0 else roundExt .neg a 0 (dyOf a).neg

/-- `FloatArith.abs` (R166 P4, U16). -/
def fabs (a : Ext) : FltResult :=
  if a = mostNegF then freeResult .abs a 0 else roundExt .abs a 0 (dyOf a).abs

/-- `FloatArith.norm`: no property is known (R343, U20; log 20). -/
def fnorm (a : Ext) : FltResult := freeResult .norm a 0

/-- `FloatArith.rnd` (R344, U21; log 20). -/
def frnd (a : Ext) : FltResult :=
  if isZeroF a then exactResult .rnd a 0 .zero
  else if isSingle a then ⟨a, false, false⟩
  else
    let br := bracket 23 (dyOf a)
    match br.above with
    | some _ => ⟨chooseNear .rnd a 0 (dyOf a) br, Config.floatV .rnd a 0, Config.floatUF .rnd a 0⟩
    | none => ⟨Config.floatBits .rnd a 0, true, Config.floatUF .rnd a 0⟩

/-- The greatest integer not above m · 2^k, and whether it is that number. -/
def Dy.floor (d : Dy) : Int × Bool :=
  if 0 ≤ d.k then (d.m * 2 ^ d.k.toNat, true)
  else (d.m / 2 ^ (-d.k).toNat, d.m % 2 ^ (-d.k).toNat == 0)

/-- FIX of a number between n and n + 1 gives n + 1 (R341, R166 P5; log 21). -/
def fixesUp (n : Int) (d : Dy) : Bool :=
  let (m, k) := Config.fixCut n
  !Dy.lt d ⟨m, k⟩

/-- `FloatArith.fix` (R341, U18, U19; log 21). -/
def ffix (a : Ext) : FixResult :=
  let (n, whole) := (dyOf a).floor
  if -2 ^ 31 ≤ n ∧ (n < 2 ^ 31 - 1 ∨ n = 2 ^ 31 - 1 ∧ whole = true) then
    ⟨BitVec.ofInt 32 (if whole || !fixesUp n (dyOf a) then n else n + 1), false⟩
  else ⟨Config.fixBits a, true⟩

/-- `FloatArith.float`: exact for every integer (R342, P2). -/
def ffloat (i : Word) : Ext :=
  match (bracket 31 ⟨i.toInt, 0⟩).below with
  | some (.pat x) => x
  | _ => floatZero

end Sys2Proof.Machine
end

