-- ==== Sys2Proof/Machine/Defaults.lean ====
section
/-! DEFINITION. The parameters that `State.reset` holds. A state with other parameters is a machine with
other choices; statements about every state are about all of them. -/

namespace Sys2Proof.Machine

/-- `BranchDispBase` of the source (R102, C8). -/
def defaultBranchBase : BranchBase := ⟨0, 3, 0, 1, 3⟩

/-- The address map of the family in microprocessor mode. PRESUMED (log 7): spec/93_implementation_defined.md
G5; R62 leaves `MemMap` to the caller. -/
def defaultMemMap : List Region :=
  [⟨0x000000, 0x800000, .externalStrb⟩, ⟨0x800000, 0x002000, .externalMstrb⟩,
   ⟨0x804000, 0x002000, .externalIostrb⟩, ⟨0x808000, 0x001800, .peripheral⟩,
   ⟨0x809800, 0x000800, .internalRam⟩, ⟨0x80A000, 0x7F6000, .externalStrb⟩]

/-- The table of R174, the default of `FlagPolicy`. PRESUMED (log 28): R174 marks all but three groups as general
knowledge. -/
def defaultFlagPolicy : FlagPolicy where
  cmpInt   := ⟨.write, .write, .write, .write, .clear, .accumulate, .keep, true, false⟩
  cmpFlt   := ⟨.keep, .write, .write, .write, .write, .accumulate, .accumulate, true, false⟩
  test     := ⟨.keep, .clear, .write, .write, .clear, .keep, .keep, true, false⟩
  rot      := ⟨.write, .clear, .write, .write, .clear, .keep, .keep, false, true⟩
  loadInt  := ⟨.keep, .clear, .write, .write, .clear, .keep, .keep, false, false⟩
  loadFlt  := ⟨.keep, .clear, .write, .write, .clear, .keep, .keep, true, false⟩
  arithInt := ⟨.write, .write, .write, .write, .clear, .accumulate, .keep, false, false⟩
  absInt   := ⟨.keep, .write, .write, .write, .clear, .accumulate, .keep, false, false⟩
  mulInt   := ⟨.keep, .write, .write, .write, .clear, .accumulate, .keep, false, false⟩
  logic    := ⟨.keep, .clear, .write, .write, .clear, .keep, .keep, false, false⟩
  shift    := ⟨.write, .write, .write, .write, .clear, .accumulate, .keep, false, false⟩
  arithFlt := ⟨.keep, .write, .write, .write, .write, .accumulate, .accumulate, true, false⟩
  fix      := ⟨.keep, .write, .write, .write, .clear, .accumulate, .keep, false, false⟩
  mpyAdd   := ⟨.keep, .write, .clear, .clear, .write, .accumulate, .accumulate, true, false⟩

/-- The layout that R31 recalls, the default of `ST_LAYOUT`. PRESUMED (log 29). -/
def defaultStLayout : StLayout := ⟨0, 1, 2, 3, 4, 5, 6, 7, 8, 10, 11, 12, 13⟩

/-- The defaults of spec/00_scope.md R7, with the trap table that R472 recalls (log 8) and no declared program
(log 12). The interlock protects every shared word, as R73 says (log 50). -/
def defaultParams : Params where
  arauWidth := .w32
  parallelSubOrder := .source
  branchBase := defaultBranchBase
  flagPolicy := defaultFlagPolicy
  stLayout := defaultStLayout
  shiftBits := 7
  lc31LowPower := false
  trapMax := 31
  trapTable := .cells 0x20#24
  memMap := defaultMemMap
  programText := []
  lockedData := [⟨0, 0x1000000⟩]

end Sys2Proof.Machine
end

