-- ==== Sys2Proof/Syntax.lean ====
section
/-! DEFINITION. The instruction terms of spec/30_encoding.md R90: operands by role, and one constructor of
`Instr` for each row of spec/opcode_table.json. -/

namespace Sys2Proof

/-- The 28 registers that register addressing can name (R20, numbered by R110). -/
inductive Reg where
  | r (n : Rn)
  | ar (n : ARn)
  | dp | ir0 | ir1 | bk | sp | st | ie | ifr | iof | rs | re | rc
  deriving DecidableEq, Repr

/-- The 20 tests of Tabla 3-13 (R175); a synonym is the same instruction (R98). -/
inductive Cond where
  | u | lo | ls | hi | hs | eq | ne | lt | le | gt | ge
  | nv | v | nuf | uf | nlv | lv | nluf | luf | zuf
  deriving DecidableEq, Repr

/-- The eight forms of Tabla 3-3 that take a displacement, in its order (R200 to R207, R115). -/
inductive IndMode where
  /-- `*+ARn(d)` -/
  | preAdd
  /-- `*-ARn(d)` -/
  | preSub
  /-- `*++ARn(d)` -/
  | preAddMod
  /-- `*--ARn(d)` -/
  | preSubMod
  /-- `*ARn++(d)` -/
  | postAdd
  /-- `*ARn--(d)` -/
  | postSub
  /-- `*ARn++(d)%` -/
  | postAddCirc
  /-- `*ARn--(d)%` -/
  | postSubCirc
  deriving DecidableEq, Repr

/-- The displacement of an indirect operand (R193, R194). -/
inductive Disp where
  | disp (d : BitVec 8)
  | ir0
  | ir1
  deriving DecidableEq, Repr

/-- An indirect operand (R193). -/
inductive Indirect where
  | indexed (m : IndMode) (d : Disp) (ar : ARn)
  /-- `*ARn` (R210) -/
  | plain (ar : ARn)
  /-- `*ARn++(IR0)B` (R214) -/
  | bitrev (ar : ARn)
  deriving DecidableEq, Repr

/-- An operand in memory: direct or indirect (R221, rows `Daddr` and LDFI). -/
inductive MemOp where
  | dir (k : BitVec 16)
  | ind (i : Indirect)
  deriving DecidableEq, Repr

/-- `src` and `count` of a two-operand integer instruction (R221). -/
inductive Src where
  | reg (r : Reg)
  | mem (m : MemOp)
  | imm (k : BitVec 16)
  deriving DecidableEq, Repr

/-- `src` of a two-operand float instruction: a register source is one of R0 to R7 (R167). -/
inductive FSrc where
  | reg (n : Rn)
  | mem (m : MemOp)
  | imm (k : BitVec 16)
  deriving DecidableEq, Repr

/-- `src1`, `src2` of a three-operand integer instruction (R221). -/
inductive Src3 where
  | reg (r : Reg)
  | ind (i : Indirect)
  deriving DecidableEq, Repr

/-- `src1`, `src2` of a three-operand float instruction (R221, R167), and each of op1, op2, op4, op5 of a
parallel multiply (R421). -/
inductive FSrc3 where
  | reg (n : Rn)
  | ind (i : Indirect)
  deriving DecidableEq, Repr

/-- `Csrc` (R357): a register, or the displacement field of the binary form (R118). -/
inductive Csrc where
  | reg (r : Reg)
  | disp (d : BitVec 16)
  deriving DecidableEq, Repr

/-- The operands of a pair `X src2,dst1 || STx src3,dst2` (R422). -/
structure OneStore where
  src2 : Indirect
  dst1 : Rn
  src3 : Rn
  dst2 : Indirect
  deriving DecidableEq, Repr

/-- The operands of a pair `X3 src1,src2,dst1 || STx src3,dst2` (R422). -/
structure TwoStore where
  src1 : Rn
  src2 : Indirect
  dst1 : Rn
  src3 : Rn
  dst2 : Indirect
  deriving DecidableEq, Repr

/-- The operands of the two-load pairs (R438, R440). -/
structure LoadPair where
  src2 : Indirect
  dst1 : Rn
  src4 : Indirect
  dst2 : Rn
  deriving DecidableEq, Repr

/-- The operands of the two-store pairs (R453, R454). -/
structure StorePair where
  src1 : Rn
  dst1 : Indirect
  src3 : Rn
  dst2 : Indirect
  deriving DecidableEq, Repr

/-- The operands of a multiply with an add or subtract (R428): `op3` is R0, or R1 when `op3R1`; `op6` is
R2, or R3 when `op6R3`. -/
structure MulPair where
  op1   : FSrc3
  op2   : FSrc3
  op3R1 : Bool
  op4   : FSrc3
  op5   : FSrc3
  op6R3 : Bool
  deriving DecidableEq, Repr

/-- The instructions, one constructor for each row of spec/opcode_table.json. -/
inductive Instr where
  -- format G, integer
  | absi (src : Src) (dst : Reg)
  | addc (src : Src) (dst : Reg)
  | addi (src : Src) (dst : Reg)
  | and (src : Src) (dst : Reg)
  | andn (src : Src) (dst : Reg)
  | ash (count : Src) (dst : Reg)
  | cmpi (src : Src) (dst : Reg)
  | ldi (src : Src) (dst : Reg)
  | lsh (count : Src) (dst : Reg)
  | mpyi (src : Src) (dst : Reg)
  | negb (src : Src) (dst : Reg)
  | negi (src : Src) (dst : Reg)
  | not (src : Src) (dst : Reg)
  | or (src : Src) (dst : Reg)
  | subb (src : Src) (dst : Reg)
  | subc (src : Src) (dst : Reg)
  | subi (src : Src) (dst : Reg)
  | subrb (src : Src) (dst : Reg)
  | subri (src : Src) (dst : Reg)
  | tstb (src : Src) (dst : Reg)
  | xor (src : Src) (dst : Reg)
  -- format G, float and conversion
  | absf (src : FSrc) (dst : Rn)
  | addf (src : FSrc) (dst : Rn)
  | cmpf (src : FSrc) (dst : Rn)
  | fix (src : FSrc) (dst : Reg)
  | float (src : Src) (dst : Rn)
  | lde (src : FSrc) (dst : Rn)
  | ldf (src : FSrc) (dst : Rn)
  | ldm (src : FSrc) (dst : Rn)
  | mpyf (src : FSrc) (dst : Rn)
  | negf (src : FSrc) (dst : Rn)
  | norm (src : FSrc) (dst : Rn)
  | rnd (src : FSrc) (dst : Rn)
  | subf (src : FSrc) (dst : Rn)
  | subrf (src : FSrc) (dst : Rn)
  -- stores, stack, interlocked
  | stf (src : Rn) (daddr : MemOp)
  | sti (src : Reg) (daddr : MemOp)
  | pop (dst : Reg)
  | popf (dst : Rn)
  | push (src : Reg)
  | pushf (src : Rn)
  | ldp (page : BitVec 8)
  | ldfi (src : MemOp) (dst : Rn)
  | ldii (src : MemOp) (dst : Reg)
  | stfi (src : Rn) (daddr : MemOp)
  | stii (src : Reg) (daddr : MemOp)
  | sigi
  -- rotates
  | rol (dst : Reg)
  | rolc (dst : Reg)
  | ror (dst : Reg)
  | rorc (dst : Reg)
  -- control in format G
  | idle
  | idle2
  | nop (src : Option Indirect)
  | maxspeed
  | lopower
  | rpts (src : Src)
  | iack (src : MemOp)
  -- format T
  | addc3 (src1 src2 : Src3) (dst : Reg)
  | addf3 (src1 src2 : FSrc3) (dst : Rn)
  | addi3 (src1 src2 : Src3) (dst : Reg)
  | and3 (src1 src2 : Src3) (dst : Reg)
  | andn3 (src1 src2 : Src3) (dst : Reg)
  | ash3 (src count : Src3) (dst : Reg)
  | cmpf3 (src1 src2 : FSrc3)
  | cmpi3 (src1 src2 : Src3)
  | lsh3 (src count : Src3) (dst : Reg)
  | mpyf3 (src1 src2 : FSrc3) (dst : Rn)
  | mpyi3 (src1 src2 : Src3) (dst : Reg)
  | or3 (src1 src2 : Src3) (dst : Reg)
  | subb3 (src1 src2 : Src3) (dst : Reg)
  | subf3 (src1 src2 : FSrc3) (dst : Rn)
  | subi3 (src1 src2 : Src3) (dst : Reg)
  | tstb3 (src1 src2 : Src3)
  | xor3 (src1 src2 : Src3) (dst : Reg)
  -- conditional loads
  | ldfcond (c : Cond) (src : FSrc) (dst : Rn)
  | ldicond (c : Cond) (src : Src) (dst : Reg)
  -- program control
  | br (addr : Addr)
  | brd (addr : Addr)
  | call (addr : Addr)
  | rptb (addr : Addr)
  | swi
  | bcond (c : Cond) (csrc : Csrc)
  | bcondD (c : Cond) (csrc : Csrc)
  | dbcond (c : Cond) (ar : ARn) (csrc : Csrc)
  | dbcondD (c : Cond) (ar : ARn) (csrc : Csrc)
  | callcond (c : Cond) (csrc : Csrc)
  | trapcond (c : Cond) (n : Fin 32)
  | reticond (c : Cond)
  | retscond (c : Cond)
  -- parallel multiply with add or subtract
  | mpyf3Addf3 (p : MulPair)
  | mpyf3Subf3 (p : MulPair)
  | mpyi3Addi3 (p : MulPair)
  | mpyi3Subi3 (p : MulPair)
  -- parallel loads and stores
  | stfStf (p : StorePair)
  | stiSti (p : StorePair)
  | ldfLdf (p : LoadPair)
  | ldiLdi (p : LoadPair)
  -- an operation with a parallel store
  | absfStf (p : OneStore)
  | absiSti (p : OneStore)
  | addf3Stf (p : TwoStore)
  | addi3Sti (p : TwoStore)
  | and3Sti (p : TwoStore)
  | ash3Sti (p : TwoStore)
  | fixSti (p : OneStore)
  | floatStf (p : OneStore)
  | ldfStf (p : OneStore)
  | ldiSti (p : OneStore)
  | lsh3Sti (p : TwoStore)
  | mpyf3Stf (p : TwoStore)
  | mpyi3Sti (p : TwoStore)
  | negfStf (p : OneStore)
  | negiSti (p : OneStore)
  | notSti (p : OneStore)
  | or3Sti (p : TwoStore)
  | subf3Stf (p : TwoStore)
  | subi3Sti (p : TwoStore)
  | xor3Sti (p : TwoStore)
  deriving DecidableEq, Repr

end Sys2Proof
end

