-- ==== Sys2Proof/Machine/State.lean ====
section
/-! DEFINITION. The state of the machine as plain data, why a step can stop, and the state after reset. -/

namespace Sys2Proof.Machine

/-- The register ST as named fields (R31, D8); moved as a word by `Status.toWord` and `Status.ofWord`. -/
structure Status where
  c   : Bool
  v   : Bool
  z   : Bool
  n   : Bool
  uf  : Bool
  lv  : Bool
  luf : Bool
  ovm : Bool
  rm  : Bool
  cf  : Bool
  ce  : Bool
  cc  : Bool
  gie : Bool
  deriving DecidableEq, Repr

/-- How many instructions still execute before a pending delayed branch transfers (R355). -/
inductive Slots where
  | three | two | one
  deriving DecidableEq, Repr

/-- A delayed branch that has been taken and has not yet transferred (R43, R355). -/
structure Pending where
  target : Addr
  slots  : Slots
  deriving DecidableEq, Repr

/-- Where a single-instruction repeat stands (R377): `armed` from RPTS until the repeated instruction is
fetched, `looping` while it is held in IR (R39). -/
inductive RptsPhase where
  | off | armed | looping
  deriving DecidableEq, Repr

/-- The instruction that waits (R13), with what it needs to finish. -/
inductive Waiting where
  /-- LDFI on a bus operand (R403) -/
  | ldfi (a : Addr) (dst : Rn)
  /-- LDII on a bus operand (R404) -/
  | ldii (a : Addr) (dst : Reg)
  /-- STFI or STII on a bus operand, with the word to be stored (R407, R408) -/
  | store (a : Addr) (v : Word)
  /-- SIGI (R409) -/
  | sigi
  /-- IDLE (R371) -/
  | idle
  /-- IDLE2 (R384) -/
  | idle2
  deriving DecidableEq, Repr

/-- The clock H1 (R42). -/
inductive ClockMode where
  | normal | dividedBy16
  deriving DecidableEq, Repr

/-- One level the CPU drove on a line; the history of these is observable (R525). -/
inductive LineEvent where
  | xf0 (level : Bool)
  | iack (level : Bool)
  deriving DecidableEq, Repr

/-- An interrupt source (R476): its vector, and the bits `enabled(i)` and `pending(i)`. -/
structure Source where
  vector  : VectorRef
  enabled : Bool
  pending : Bool
  deriving DecidableEq, Repr

/-- What the world outside does (R45, R73, R401, R476): before one step, the level of XF1 (true is 1, inactive),
whether the ready signals are active, the sources that become enabled or not, those that become pending, and the
words other agents write; and the words they write between the two memory accesses of the step's instruction (R69;
log 38). -/
structure EnvInput where
  xf1     : Bool
  rdyInt  : Bool
  xrdyInt : Bool
  enables : List (Nat × Bool)
  irqs    : List Nat
  writes  : List (Addr × Word)
  between : List (Addr × Word)
  deriving DecidableEq, Repr

/-- Memory: pairs of a word address and the word there, in the canonical form `Memory.wf`; an address with no
pair reads as `Memory.unlisted`. The unit is the 32-bit word, which has no bytes (R61, R66; log 2). -/
abbrev Memory := List (Nat × Word)

/-- What a word that nothing has written reads as. DESIGN CHOICE (log 3), unsafe: R46 leaves the contents of
memory open. -/
def Memory.unlisted : Word := 0#32

/-- The state of the machine. INVENTORY.md lists each field with its rule and its reset value. -/
structure State where
  r       : Vector Ext 8
  ar      : Vector Word 8
  dp      : Word
  ir0     : Word
  ir1     : Word
  bk      : Word
  sp      : Word
  st      : Status
  ie      : Word
  ifr     : Word
  iof     : Word
  rs      : Word
  re      : Word
  rc      : Word
  pc      : Addr
  ir      : Word
  rpts    : RptsPhase
  pend    : Option Pending
  waiting : Option Waiting
  xf0     : Bool
  lock    : Bool
  iack    : Bool
  clock   : ClockMode
  sources : List Source
  mem     : Memory
  ran     : List Nat
  stored  : List Nat
  xf1     : Bool
  rdyInt  : Bool
  xrdyInt : Bool
  between : List (Addr × Word)
  env     : List EnvInput
  trace   : List LineEvent
  draws   : Nat
  params  : Params
  deriving DecidableEq, Repr

/-- Why the machine stops with a fault: never. "The source describes no instruction that faults" (R13, R471). -/
inductive Fault where
  deriving DecidableEq, Repr

/-- Why the model gives a step no meaning. Each is a case the spec itself refuses, so each is safe. -/
inductive Refusal where
  /-- An instruction without a meaning; raised by `exec` only. Safe. -/
  | notModelled (mnemonic : String)
  /-- The word at the program counter is no instruction (R105, R131). Raised by `step`. Safe. -/
  | illegalWord
  /-- SWI (R382). Raised by `execSwi`. Safe. -/
  | softwareInterrupt
  /-- IDLE2, LOPOWER or MAXSPEED on another member than the LC31 (R384 to R386, D37). Raised by them. Safe. -/
  | lowPowerAbsent
  /-- An operand names IE, IF or IOF (R41, D14). Raised by `readInt`, `writeInt` and the loads. Safe. -/
  | unnamedRegister
  /-- A write that would set ST.OVM (R34, D10). Raised by `writeInt`. Safe. -/
  | overflowModeSet
  /-- An access (fetch, data or stack) to an address that `MemMap` calls unmapped (R62, D2). Raised by `memRead` and
  `memWrite`. Safe. -/
  | unmapped (a : Addr)
  /-- A store to an address that holds an instruction of the program (R75, D21). Raised by `memWrite`. Safe. -/
  | storeToProgram
  /-- A fetch from an address that this run has stored to: that store was to an instruction (R75; log 12). Raised by
  `fetch`. Safe. -/
  | storedInstruction
  /-- A circular update with BK = 0, index not below BK, or step above BK (R209, D19). Raised by
  `circular`. Safe. -/
  | circularBounds
  /-- One ARn in two indirect operands, at least one of which modifies it (R211, D35). Raised by
  `guardPair`. Safe. -/
  | auxUsedTwice
  /-- The destination is the ARn that an indirect operand of the instruction modifies (R211, D35). Raised by
  `guardDest`. Safe. -/
  | auxAlsoDestination
  /-- Two parallel loads into one register (R424, D35). Raised by the two-load pairs. Safe. -/
  | sameLoadRegister
  /-- Two parallel stores to one address (R424, D35). Raised by the two-store pairs. Safe. -/
  | sameStoreAddress
  /-- A parallel multiply whose sources are not two registers and two indirect operands (R428). Safe. -/
  | parallelOperands
  /-- An instruction that may not stand in a delay slot (R356, R409, D15). Raised by `guardControl`. Safe. -/
  | inDelaySlot
  /-- An instruction at RE in repeat mode while a delayed branch is pending (R356). Raised by
  `fetchExec`. Safe. -/
  | repeatEndInDelaySlot
  /-- An instruction that RPTS may not repeat (R378, R409). Raised by `guardControl`. Safe. -/
  | repeatedControl
  /-- RPTB or RPTS with a count of 2^31 or more, or RPTS with an immediate of 8000h or more (R377, R378).
  Raised by them. Safe. -/
  | repeatCount
  /-- RPTB with an end before its start (R375, R378). Raised by `execRptb`. Safe. -/
  | emptyRepeatBlock
  /-- RPTB or RPTS inside the block being repeated (R378). Raised by them. Safe. -/
  | nestedRepeat
  /-- TRAPcond with a number above TRAP_MAX, or without a vector (R380, R472). Raised by `execTrapcond`. Safe. -/
  | trapNumber
  /-- IDLE or IDLE2 with GIE = 0 (R371, D30). Raised by them. Safe. -/
  | idleWithoutGie
  /-- A SIGI that waits while an interrupt could be taken (R409, D41). Raised by `execSigi` and
  `resume`. Safe. -/
  | sigiInterrupted
  deriving DecidableEq, Repr

/-- The outcome of an operation. -/
abbrev Res (α : Type) := Except Refusal α

/-- ST with every field clear. PRESUMED (log 5): the family's reset value (R46). -/
def Status.reset : Status :=
  ⟨false, false, false, false, false, false, false, false, false, false, false, false, false⟩

/-- The state right after reset (R46, R501): the spec states only that no delayed branch is pending; every
other value is the model's, by the log entry that INVENTORY.md names beside the field. -/
def State.reset : State where
  r := Vector.replicate 8 0#40
  ar := Vector.replicate 8 0#32
  dp := 0#32
  ir0 := 0#32
  ir1 := 0#32
  bk := 0#32
  sp := 0#32
  st := Status.reset
  ie := 0#32
  ifr := 0#32
  iof := 0#32
  rs := 0#32
  re := 0#32
  rc := 0#32
  pc := 0#24
  ir := 0#32
  rpts := .off
  pend := none
  waiting := none
  xf0 := true
  lock := false
  iack := true
  clock := .normal
  sources := []
  mem := []
  ran := []
  stored := []
  xf1 := true
  rdyInt := true
  xrdyInt := true
  between := []
  env := []
  trace := []
  draws := 0
  params := defaultParams

end Sys2Proof.Machine
end

