-- ==== Sys2Proof/Machine/Ops.lean ====
section
/-! DEFINITION. The operations that the meanings share: stopping, named updates, free values, memory, the
registers, the stack, what follows an instruction, and taking and leaving an exception. -/

namespace Sys2Proof.Machine

/-! ## Stopping -/

def refuse {α : Type} (r : Refusal) : Res α := .error r

/-- The operation goes on only if the condition holds. -/
def need (b : Bool) (r : Refusal) : Res Unit := if b then .ok () else refuse r

def toOutcome (x : Res State) : Host.Outcome State Fault Refusal :=
  match x with
  | .ok s => .next s
  | .error r => .refused r

/-! ## Named reads and updates -/

/-- `x[Rn]`, 40 bits (R10, R22). -/
def State.rn (s : State) (n : Rn) : Ext := s.r[n]

/-- `x[ARn]` (R10, R24). -/
def State.arn (s : State) (n : ARn) : Word := s.ar[n]

def State.setR (s : State) (n : Rn) (x : Ext) : State := { s with r := s.r.set n x }

def State.setAr (s : State) (n : ARn) (v : Word) : State := { s with ar := s.ar.set n v }

def State.setSt (s : State) (st : Status) : State := { s with st := st }

def State.setSp (s : State) (v : Word) : State := { s with sp := v }

def State.setPc (s : State) (a : Addr) : State := { s with pc := a }

/-- One draw is used up (log 15). -/
def State.tick (s : State) : State := { s with draws := s.draws + 1 }

/-- Drive XF0 (R10, R38); the level enters the history (R525, log 46). XF0 ← 1 gives the interlock back (R76, R410). -/
def State.driveXf0 (s : State) (level : Bool) : State :=
  { s with xf0 := level, lock := if level then false else s.lock, trace := .xf0 level :: s.trace }

/-- The interlock is acquired: an interlocked load completes with XF1 = 0 (R73, R412). -/
def State.acquire (s : State) : State := { s with lock := true }

/-- Drive the IACK line (R40); the level enters the history (R525, log 46). -/
def State.driveIack (s : State) (level : Bool) : State := { s with iack := level, trace := .iack level :: s.trace }

/-! ## Free values -/

/-- `draw(32 bits)` (R10; log 15). -/
def drawWord (s : State) : Word × State := (Config.freeWord s.draws, s.tick)

/-- `draw(1 bit)` (R10; log 15). -/
def drawBit (s : State) : Bool × State := (Config.freeBit s.draws, s.tick)

/-! ## Memory (spec/20_memory.md) -/

/-- The word at an address. -/
def Memory.read : Memory → Nat → Word
  | [], _ => Memory.unlisted
  | (b, v) :: t, a => if b = a then v else Memory.read t a

/-- No pair for an address. -/
def Memory.erase : Memory → Nat → Memory
  | [], _ => []
  | (b, v) :: t, a => if b = a then Memory.erase t a else (b, v) :: Memory.erase t a

/-- One pair for an address, in its place. -/
def Memory.insert : Memory → Nat → Word → Memory
  | [], a, v => [(a, v)]
  | (b, w) :: t, a, v =>
    if a < b then (a, v) :: (b, w) :: t
    else if a = b then (a, v) :: t
    else (b, w) :: Memory.insert t a v

/-- Replace the word at an address (R65), keeping the canonical form. -/
def Memory.write (m : Memory) (a : Nat) (v : Word) : Memory :=
  if v = Memory.unlisted then m.erase a else m.insert a v

/-- The canonical form: addresses strictly rising from `lo`, below 2^24, and no word equal to what an
unlisted address reads as. -/
def Memory.wfFrom (lo : Nat) : Memory → Bool
  | [] => true
  | (a, v) :: t => decide (lo ≤ a) && decide (a < 2 ^ 24) && (v != Memory.unlisted) && Memory.wfFrom (a + 1) t

/-- The canonical form of memory. -/
def Memory.wf (m : Memory) : Bool := m.wfFrom 0

/-- The kind of an address under a map (R62). -/
def regionOf : List Region → Nat → RegionKind
  | [], _ => .unmapped
  | g :: t, a => if g.base ≤ a ∧ a < g.base + g.size then g.kind else regionOf t a

/-- `MemMap(a)` (R62). -/
def State.kindAt (s : State) (a : Addr) : RegionKind := regionOf s.params.memMap a.toNat

/-- An address more in a list that strictly rises. -/
def noteAddr (a : Nat) : List Nat → List Nat
  | [] => [a]
  | b :: t => if a < b then a :: b :: t else if a = b then b :: t else b :: noteAddr a t

/-- The address lies in one of the runs. -/
def covers (l : List Extent) (a : Addr) : Bool :=
  l.any fun e => decide (e.base ≤ a.toNat) && decide (a.toNat < e.base + e.size)

/-- The address holds an instruction of the program (R75): one that the caller declares, or one that this run has
executed (log 12). -/
def State.inProgram (s : State) (a : Addr) : Bool :=
  s.ran.contains a.toNat || covers s.params.programText a

/-- The word at an address is replaced (R65), and the address counts as stored to (log 12). -/
def State.store (s : State) (a : Addr) (v : Word) : State :=
  { s with mem := s.mem.write a.toNat v, stored := noteAddr a.toNat s.stored }

/-- `MemRead(a, 1)` (R64): a read of a peripheral is a draw; an unmapped access is refused (R62). -/
def memRead (a : Addr) (s : State) : Res (Word × State) :=
  match s.kindAt a with
  | .unmapped => refuse (.unmapped a)
  | .peripheral => .ok (drawWord s)
  | .internalRam | .externalStrb | .externalMstrb | .externalIostrb => .ok (s.mem.read a.toNat, s)

/-- `MemWrite(a, 1, v)` (R65, R62, R75). What a peripheral does with a word is not in the spec: the word is
kept, and no read returns it (R64; log 39). -/
def memWrite (a : Addr) (v : Word) (s : State) : Res State :=
  match s.kindAt a with
  | .unmapped => refuse (.unmapped a)
  | .peripheral | .internalRam | .externalStrb | .externalMstrb | .externalIostrb =>
    if s.inProgram a then refuse .storeToProgram else .ok (s.store a v)

/-! ## Other agents (R69, R73, R487; log 11, 50) -/

/-- Other agents reach external and peripheral memory; internal memory is private (R73, R487). -/
def State.shared (s : State) (a : Addr) : Bool :=
  match s.kindAt a with
  | .externalStrb | .externalMstrb | .externalIostrb | .peripheral => true
  | .internalRam | .unmapped => false

/-- The program holds the interlock, and the address is of the data it protects: other agents keep off it (R73;
log 50). -/
def State.locked (s : State) (a : Addr) : Bool := s.lock && covers s.params.lockedData a

/-- Another agent can change the word at an address: it is shared, not locked, and not of the program, which is fixed
for the run (R75). -/
def State.agentMay (s : State) (a : Addr) : Bool := s.shared a && !s.inProgram a && !s.locked a

/-- Words that other agents write. -/
def outsideWrites : List (Addr × Word) → State → State
  | [], s => s
  | (a, v) :: t, s => outsideWrites t (if s.agentMay a then s.store a v else s)

/-- Other agents write between the two memory accesses of an instruction: the pair is not atomic (R69; log 38). -/
def agentsAct (s : State) : State := outsideWrites s.between { s with between := [] }

/-! ## The status register as a word (`ST_LAYOUT`, R31; log 29) -/

/-- One bit of a word. -/
def bitAt (p : Fin 32) (b : Bool) : Word := if b then 1#32 <<< p.val else 0#32

/-- Reserved bits read as 0 (R31). -/
def Status.toWord (l : StLayout) (st : Status) : Word :=
  bitAt l.c st.c ||| bitAt l.v st.v ||| bitAt l.z st.z ||| bitAt l.n st.n ||| bitAt l.uf st.uf ||| bitAt l.lv st.lv |||
    bitAt l.luf st.luf ||| bitAt l.ovm st.ovm ||| bitAt l.rm st.rm ||| bitAt l.cf st.cf ||| bitAt l.ce st.ce |||
    bitAt l.cc st.cc ||| bitAt l.gie st.gie

/-- Reserved bits are discarded (R31). -/
def Status.ofWord (l : StLayout) (w : Word) : Status where
  c := w.getLsbD l.c
  v := w.getLsbD l.v
  z := w.getLsbD l.z
  n := w.getLsbD l.n
  uf := w.getLsbD l.uf
  lv := w.getLsbD l.lv
  luf := w.getLsbD l.luf
  ovm := w.getLsbD l.ovm
  rm := w.getLsbD l.rm
  cf := w.getLsbD l.cf
  ce := w.getLsbD l.ce
  cc := w.getLsbD l.cc
  gie := w.getLsbD l.gie

/-! ## Registers (R20, R23) -/

/-- `int(r)` (R10, R23). An operand that names IE, IF or IOF is refused (R41). -/
def readInt (r : Reg) (s : State) : Res Word :=
  match r with
  | .r n => .ok (intView (s.rn n))
  | .ar n => .ok (s.arn n)
  | .dp => .ok s.dp
  | .ir0 => .ok s.ir0
  | .ir1 => .ok s.ir1
  | .bk => .ok s.bk
  | .sp => .ok s.sp
  | .st => .ok (s.st.toWord s.params.stLayout)
  | .rs => .ok s.rs
  | .re => .ok s.re
  | .rc => .ok s.rc
  | .ie | .ifr | .iof => refuse .unnamedRegister

/-- `int(r) <- v` (R10, R23, R245): a write that would set OVM is refused (R34), and one to IE, IF or IOF
(R41). -/
def writeInt (r : Reg) (v : Word) (s : State) : Res State :=
  match r with
  | .r n => .ok (s.setR n (withInt (s.rn n) v))
  | .ar n => .ok (s.setAr n v)
  | .dp => .ok { s with dp := v }
  | .ir0 => .ok { s with ir0 := v }
  | .ir1 => .ok { s with ir1 := v }
  | .bk => .ok { s with bk := v }
  | .sp => .ok (s.setSp v)
  | .st =>
    let st := Status.ofWord s.params.stLayout v
    if st.ovm then refuse .overflowModeSet else .ok (s.setSt st)
  | .rs => .ok { s with rs := v }
  | .re => .ok { s with re := v }
  | .rc => .ok { s with rc := v }
  | .ie | .ifr | .iof => refuse .unnamedRegister

/-- The register is one an operand may name (R41). -/
def namedReg : Reg → Bool
  | .ie | .ifr | .iof => false
  | .r _ | .ar _ | .dp | .ir0 | .ir1 | .bk | .sp | .st | .rs | .re | .rc => true

/-- The register is one of R0 to R7, the condition of R174's last column. -/
def isExtended : Reg → Bool
  | .r _ => true
  | .ar _ | .dp | .ir0 | .ir1 | .bk | .sp | .st | .ie | .ifr | .iof | .rs | .re | .rc => false

/-! ## The stack (R30) -/

/-- `v → *++SP`. -/
def push (v : Word) (s : State) : Res State := memWrite (low24 (s.sp + 1)) v (s.setSp (s.sp + 1))

/-- `*SP--`. -/
def pop (s : State) : Res (Word × State) := do
  let (v, s1) ← memRead (low24 s.sp) s
  .ok (v, s1.setSp (s.sp - 1))

/-! ## What follows an instruction (R351) -/

/-- The instruction that completes is the last of the block being repeated (R376). -/
def State.atRepeatEnd (s : State) : Bool := s.st.rm && s.pc == low24 s.re

/-- The slots that are left after one more instruction (R355). -/
def Pending.advance : Option Pending → Option Pending
  | some ⟨t, .three⟩ => some ⟨t, .two⟩
  | some ⟨t, .two⟩ => some ⟨t, .one⟩
  | some ⟨_, .one⟩ | none => none

/-- The address after an instruction that neither transfers nor loops (R355, R27). -/
def State.following (s : State) : Addr :=
  match s.pend with
  | some ⟨t, .one⟩ => t
  | some ⟨_, .three⟩ | some ⟨_, .two⟩ | none => s.pc + 1

/-- The end of the last pass: RM is cleared, and RC is 0 or FFFFFFFFh, a free choice (R376 `RC_FINAL`;
log 24). -/
def endRepeat (s : State) : State :=
  let (b, s1) := drawBit s
  { s1 with st := { s1.st with rm := false }, rc := if b then 0xFFFFFFFF#32 else 0#32, rpts := .off }

/-- The instruction at `pc` has completed and transfers nowhere: the repeat mechanism (R376), then a pending
delayed branch (R355), then `pc + 1`, in the order of R351. DESIGN CHOICE (log 33): R377 does not say whether the phase
of RPTS goes on when the repeated instruction writes RS; it ends where the next pass starts at another address. -/
def sequential (s : State) : State :=
  if s.atRepeatEnd then
    if s.rc = 0#32 then
      let s1 := endRepeat s
      { s1 with pc := s.following, pend := Pending.advance s.pend }
    else
      { s with rc := s.rc - 1, pc := low24 s.rs, pend := Pending.advance s.pend,
               rpts := if low24 s.rs = s.pc then s.rpts else .off }
  else { s with pc := s.following, pend := Pending.advance s.pend, rpts := .off }

/-- An immediate transfer (R350): it wins over the repeat mechanism (R376). -/
def jump (t : Addr) (s : State) : State := s.setPc t

/-- A delayed transfer: three more instructions execute first (R355, R361; at RE, log 31). -/
def delayedJump (t : Addr) (s : State) : State := { s with pend := some ⟨t, .three⟩, pc := s.pc + 1 }

/-- What an instruction of spec/46_program_control.md that may not stand in a delay slot, nor be repeated by
RPTS, needs (R356, R378, R409). LDFI, LDII, STFI and STII, which can wait too, do not need it (log 13). -/
def guardControl (s : State) : Res Unit := do
  need s.pend.isNone .inDelaySlot
  need (s.rpts == .off) .repeatedControl

/-- What LOPOWER and MAXSPEED need: they may stand in a delay slot, but RPTS may not repeat them (R378). -/
def guardRepeated (s : State) : Res Unit := need (s.rpts == .off) .repeatedControl

/-! ## Exceptions: traps and interrupts (R473, R475, R477) -/

/-- Taking an exception: the return address is pushed, GIE is cleared, and execution goes on at the vector's
address; nothing else is saved (R473, R475). -/
def enter (ret target : Addr) (s : State) : Res State := do
  let s1 ← push (zext32 ret) s
  .ok (jump target (s1.setSt { s1.st with gie := false }))

/-- Leaving a subroutine: the return address is popped (R369). -/
def returnTo (s : State) : Res State := do
  let (v, s1) ← pop s
  .ok (jump (low24 v) s1)

/-- Leaving an exception: the return address is popped and GIE is set (R368, R477). -/
def returnFrom (s : State) : Res State := do
  let (v, s1) ← pop s
  .ok (jump (low24 v) (s1.setSt { s1.st with gie := true }))

/-! ## Interrupt sources (R474, R476; log 9) -/

/-- One source of a list changes. -/
def setSource (f : Source → Source) : Nat → List Source → List Source
  | _, [] => []
  | 0, x :: t => f x :: t
  | n + 1, x :: t => x :: setSource f n t

/-- `enabled(i)` is set or cleared for some sources. -/
def setEnables : List (Nat × Bool) → List Source → List Source
  | [], l => l
  | (i, b) :: t, l => setEnables t (setSource (fun x => { x with enabled := b }) i l)

/-- `pending(i)` is set for some sources. -/
def setRequests : List Nat → List Source → List Source
  | [], l => l
  | i :: t, l => setRequests t (setSource (fun x => { x with pending := true }) i l)

/-- What an input does to the sources. -/
def EnvInput.onSources (e : EnvInput) (l : List Source) : List Source := setRequests e.irqs (setEnables e.enables l)

/-- The first source, in the order of the list, that is enabled and pending, with its number (R474). -/
def firstSource : List Source → Nat → Option (Nat × VectorRef)
  | [], _ => none
  | x :: t, i => if x.enabled && x.pending then some (i, x.vector) else firstSource t (i + 1)

/-- The interrupt that can be taken between instructions, or to end an IDLE (R474): never while a delayed branch is
pending, nor from an RPTS to the end of its repetitions (log 33). -/
def State.takeable (s : State) : Option (Nat × VectorRef) :=
  if s.st.gie && s.pend.isNone && s.rpts == .off then firstSource s.sources 0 else none

/-- The interrupt that can end the wait of an LDFI or LDII (R406): never while a delayed branch is pending, nor
between the repetitions of RPTS (R474), so in the last of them only. -/
def State.loadExit (s : State) : Option (Nat × VectorRef) :=
  if s.st.gie && s.pend.isNone && (s.rpts == .off || s.atRepeatEnd && s.rc == 0#32) then firstSource s.sources 0
  else none

/-- `IntVector(i)` (R476): the word that holds it is read when the interrupt is taken (log 36). -/
def vectorAddress (v : VectorRef) (s : State) : Res (Addr × State) :=
  match v with
  | .fixed a => .ok (a, s)
  | .cell a => do
    let (w, s1) ← memRead a s
    .ok (low24 w, s1)

/-- Interrupt entry (R475): as `enter`, and `pending(i)` is cleared. -/
def enterInterrupt (i : Nat) (v : VectorRef) (ret : Addr) (s : State) : Res State := do
  let (t, s1) ← vectorAddress v s
  let s2 ← enter ret t s1
  .ok { s2 with sources := setSource (fun x => { x with pending := false }) i s2.sources }

/-- `TrapVector(N)` is defined (R472): N is not above TRAP_MAX, and a list of addresses has one for it. -/
def State.hasTrap (s : State) (n : Nat) : Bool :=
  decide (n ≤ s.params.trapMax) &&
    match s.params.trapTable with
    | .fixed l => decide (n < l.length)
    | .cells _ => true

/-- `TrapVector(N)` (R472), read when the trap is taken (log 36). -/
def trapVector (n : Nat) (s : State) : Res (Addr × State) := do
  need (s.hasTrap n) .trapNumber
  match s.params.trapTable with
  | .fixed l => .ok (l.getD n 0#24, s)
  | .cells base => do
    let (w, s1) ← memRead (base + BitVec.ofNat 24 n) s
    .ok (low24 w, s1)

end Sys2Proof.Machine
end

