-- ==== Sys2Proof/Machine/Flags.lean ====
section
/-! DEFINITION. Integer results, every flag computation, and the tests of the condition codes
(spec/40_data_formats_and_flags.md section 6, spec/43_arithmetic.md section 1, spec/44_logic.md section 1). -/

namespace Sys2Proof.Machine

/-! ## Integer results -/

/-- A result r with C' and V'. `c` is `none` where R170 to R173 give no C'. -/
structure IntResult where
  value : Word
  c     : Option Bool
  v     : Bool
  deriving DecidableEq, Repr

/-- An exact result lies outside the signed 32-bit range (R160). -/
def outOfRange (x : Int) : Bool := decide (x < -2 ^ 31) || decide (2 ^ 31 ≤ x)

/-- `add(a, b, cin)` (R160, R260). -/
def addWords (a b : Word) (cin : Bool) : IntResult where
  value := BitVec.ofNat 32 (a.toNat + b.toNat + cin.toNat)
  c := some (decide (2 ^ 32 ≤ a.toNat + b.toNat + cin.toNat))
  v := outOfRange (a.toInt + b.toInt + cin.toNat)

/-- `sub(a, b, bin)` (R160, R260): C' is the borrow. -/
def subWords (a b : Word) (bin : Bool) : IntResult where
  value := BitVec.ofInt 32 (a.toNat - b.toNat - bin.toNat)
  c := some (decide (a.toNat < b.toNat + bin.toNat))
  v := outOfRange (a.toInt - b.toInt - bin.toNat)

/-- |a| (R266). -/
def absWord (a : Word) : IntResult :=
  if 0 ≤ a.toInt then ⟨a, none, false⟩ else ⟨(subWords 0 a false).value, none, (subWords 0 a false).v⟩

/-- A logic result, or a loaded value: C is not written and V' = 0 (R171, R310). -/
def plainResult (r : Word) : IntResult := ⟨r, none, false⟩

/-- A multiplier operand: −2^23 to 2^23 − 1 (R161). -/
def fits24 (a : Word) : Bool := decide (-2 ^ 23 ≤ a.toInt) && decide (a.toInt < 2 ^ 23)

/-- The product of two integers (R161, R279): a free word and a free V' when an operand does not fit 24 bits
(log 22). -/
def mulWords (a b : Word) (s : State) : IntResult × State :=
  if fits24 a && fits24 b then
    (⟨BitVec.ofInt 32 (a.toInt * b.toInt), none, outOfRange (a.toInt * b.toInt)⟩, s)
  else (⟨Config.freeWord s.draws, none, Config.freeBit s.draws⟩, s.tick)

/-- The shift count n: the low `bits` bits of the count operand, as a two's-complement number (R163 `ShiftCount`,
R330). -/
def shiftCount (bits : Nat) (c : Word) : Int := (c.setWidth (min bits 32)).toInt

/-- `shift(LSH, v, c)` (R330). -/
def shiftLogical (bits : Nat) (v c : Word) : IntResult :=
  let n := shiftCount bits c
  let m := n.natAbs
  if 0 ≤ n then ⟨BitVec.ofNat 32 (v.toNat * 2 ^ m), some (decide (1 ≤ m) && decide (m ≤ 32) && v.getLsbD (32 - m)), false⟩
  else ⟨BitVec.ofNat 32 (v.toNat / 2 ^ m), some (decide (m ≤ 32) && v.getLsbD (m - 1)), false⟩

/-- The bits a left shift by m moves out, and the new bit 31, are all equal to bit 31 (R171, R330). -/
def keepsSign (v : Word) (m : Nat) : Bool :=
  let d := 2 ^ (31 - m)
  if m ≤ 31 then decide (v.toInt / d = 0) || decide (v.toInt / d = -1) else v == 0#32

/-- `shift(ASH, v, c)` (R330). -/
def shiftArith (bits : Nat) (v c : Word) : IntResult :=
  let n := shiftCount bits c
  let m := n.natAbs
  if 0 ≤ n then
    ⟨BitVec.ofNat 32 (v.toNat * 2 ^ m), some (decide (1 ≤ m) && decide (m ≤ 32) && v.getLsbD (32 - m)), !keepsSign v m⟩
  else ⟨BitVec.ofInt 32 (v.toInt / 2 ^ m), some (if m ≤ 32 then v.getLsbD (m - 1) else v.msb), false⟩

/-- `FloatArith.fix` as an integer result: C is not written (R174 class FIX, R341). -/
def fixResult (x : Ext) : IntResult := ⟨(ffix x).value, none, (ffix x).v⟩

/-! ## The flags (`FlagPolicy`, R174) -/

/-- The row of a class. -/
def flagRow (p : FlagPolicy) (k : FlagClass) : FlagRow :=
  match k with
  | .cmpInt => p.cmpInt
  | .cmpFlt => p.cmpFlt
  | .test => p.test
  | .rot => p.rot
  | .loadInt => p.loadInt
  | .loadFlt => p.loadFlt
  | .arithInt => p.arithInt
  | .absInt => p.absInt
  | .mulInt => p.mulInt
  | .logic => p.logic
  | .shift => p.shift
  | .arithFlt => p.arithFlt
  | .fix => p.fix
  | .mpyAdd => p.mpyAdd

/-- A flag that was `old` and for which R170 to R173 give `new` (R174, R172). -/
def flagAfter (e : FlagEffect) (old new : Bool) : Bool :=
  match e with
  | .keep => old
  | .clear => false
  | .write => new
  | .accumulate => old || new

/-- What R170 to R173 give for a result: C' (where there is one), V', Z', N', UF'. -/
structure NewFlags where
  c  : Option Bool
  v  : Bool
  z  : Bool
  n  : Bool
  uf : Bool
  deriving DecidableEq, Repr

/-- The flags of an integer result (R170, R171; UF' is 0, R172). -/
def IntResult.flags (r : IntResult) : NewFlags := ⟨r.c, r.v, r.value == 0#32, r.value.msb, false⟩

/-- The flags of a float result (R172, R173). -/
def FltResult.flags (r : FltResult) : NewFlags := ⟨none, r.v, isZeroF r.value, isNegF r.value, r.uf⟩

/-- C alone, by its entry in a row. -/
def Status.updateC (st : Status) (w : FlagRow) (f : NewFlags) : Status := { st with c := flagAfter w.c st.c (f.c.getD st.c) }

/-- All seven flags, by their entries in a row. LV accumulates V' and LUF accumulates UF' (R172). -/
def Status.update (st : Status) (w : FlagRow) (f : NewFlags) : Status :=
  { st with
    c := flagAfter w.c st.c (f.c.getD st.c), v := flagAfter w.v st.v f.v, z := flagAfter w.z st.z f.z, n := flagAfter w.n st.n f.n,
    uf := flagAfter w.uf st.uf f.uf, lv := flagAfter w.lv st.lv f.v, luf := flagAfter w.luf st.luf f.uf }

/-- The flags of an instruction without a destination, or with one of R0 to R7. -/
def putFlags (k : FlagClass) (f : NewFlags) (s : State) : State := s.setSt (s.st.update (flagRow s.params.flagPolicy k) f)

/-- The flags of an instruction with any destination, by the last column of R174; where the destination is ST the
word written to it wins. -/
def putFlagsFor (k : FlagClass) (dst : Reg) (f : NewFlags) (s : State) : State :=
  let w := flagRow s.params.flagPolicy k
  match dst with
  | .st => s
  | .r _ => putFlags k f s
  | .ar _ | .dp | .ir0 | .ir1 | .bk | .sp | .ie | .ifr | .iof | .rs | .re | .rc =>
    if w.always then putFlags k f s else if w.cAlways then s.setSt (s.st.updateC w f) else s

/-! ## Results written -/

/-- `int(Dreg) <- r` and `writeIntFlags(Dreg, …)` (R174, R260). -/
def putInt (k : FlagClass) (dst : Reg) (r : IntResult) (s : State) : Res State := do
  let s1 ← writeInt dst r.value s
  .ok (putFlagsFor k dst r.flags s1)

/-- `flt(Rn) <- p` and `writeFltFlags(p, V', UF')` (R261). -/
def putFlt (k : FlagClass) (dst : Rn) (r : FltResult) (s : State) : State := putFlags k r.flags (s.setR dst r.value)

/-- A float load (R232). -/
def putLoadFlt (dst : Rn) (x : Ext) (s : State) : State := putFlt .loadFlt dst ⟨x, false, false⟩ s

/-! ## Condition codes -/

/-- `condTrue(cond, ST)` (R175). -/
def condTrue (c : Cond) (st : Status) : Bool :=
  match c with
  | .u => true
  | .lo => st.c
  | .ls => st.c || st.z
  | .hi => !st.c && !st.z
  | .hs => !st.c
  | .eq => st.z
  | .ne => !st.z
  | .lt => st.n
  | .le => st.n || st.z
  | .gt => !st.n && !st.z
  | .ge => !st.n
  | .nv => !st.v
  | .v => st.v
  | .nuf => !st.uf
  | .uf => st.uf
  | .nlv => !st.lv
  | .lv => st.lv
  | .nluf => !st.luf
  | .luf => st.luf
  | .zuf => st.z || st.uf

end Sys2Proof.Machine
end

