-- ==== Sys2Proof/WellFormed.lean ====
section
/-! DEFINITION. Which instruction terms have a word in the binary annex (spec/30_encoding.md R110 to R121).
Most limits are in the types of Syntax.lean; the checks here are the rest. -/

namespace Sys2Proof

/-- The indirect operands of three-operand and parallel instructions: displacement 0 (`*ARn`), 1, IR0 or
IR1 (R222, R104). -/
def Indirect.restricted : Indirect → Bool
  | .indexed _ (.disp d) _ => d == 1
  | .indexed _ .ir0 _ | .indexed _ .ir1 _ | .plain _ | .bitrev _ => true

def Src3.wf : Src3 → Bool
  | .reg _ => true
  | .ind i => i.restricted

def FSrc3.wf : FSrc3 → Bool
  | .reg _ => true
  | .ind i => i.restricted

def OneStore.wf (p : OneStore) : Bool := p.src2.restricted && p.dst2.restricted

def TwoStore.wf (p : TwoStore) : Bool := p.src2.restricted && p.dst2.restricted

def LoadPair.wf (p : LoadPair) : Bool := p.src2.restricted && p.src4.restricted

def StorePair.wf (p : StorePair) : Bool := p.dst1.restricted && p.dst2.restricted

/-- The four of the six arrangements of op1, op2, op4, op5 that field P can name (R120, R428). -/
def MulPair.arranged (p : MulPair) : Bool :=
  match p.op1, p.op2, p.op4, p.op5 with
  | .ind _, .ind _, .reg _, .reg _ => true
  | .ind _, .reg _, .ind _, .reg _ => true
  | .reg _, .reg _, .ind _, .ind _ => true
  | .ind _, .reg _, .reg _, .ind _ => true
  | _, _, _, _ => false

def MulPair.wf (p : MulPair) : Bool :=
  p.arranged && p.op1.wf && p.op2.wf && p.op4.wf && p.op5.wf

/-- The load-immediates into DP whose word is LDP's (R113, R238, the row LDP of the opcode table). -/
def isLdp (src : Src) (dst : Reg) : Bool :=
  match src, dst with
  | .imm k, .dp => k.extractLsb' 8 8 == 0
  | _, _ => false

/-- The term has a word, and that word decodes to it. -/
def Instr.wf : Instr → Bool
  | .absi _ _ => true
  | .addc _ _ => true
  | .addi _ _ => true
  | .and _ _ => true
  | .andn _ _ => true
  | .ash _ _ => true
  | .cmpi _ _ => true
  | .ldi src dst => !isLdp src dst
  | .lsh _ _ => true
  | .mpyi _ _ => true
  | .negb _ _ => true
  | .negi _ _ => true
  | .not _ _ => true
  | .or _ _ => true
  | .subb _ _ => true
  | .subc _ _ => true
  | .subi _ _ => true
  | .subrb _ _ => true
  | .subri _ _ => true
  | .tstb _ _ => true
  | .xor _ _ => true
  | .absf _ _ => true
  | .addf _ _ => true
  | .cmpf _ _ => true
  | .fix _ _ => true
  | .float _ _ => true
  | .lde _ _ => true
  | .ldf _ _ => true
  | .ldm _ _ => true
  | .mpyf _ _ => true
  | .negf _ _ => true
  | .norm _ _ => true
  | .rnd _ _ => true
  | .subf _ _ => true
  | .subrf _ _ => true
  | .stf _ _ => true
  | .sti _ _ => true
  | .pop _ => true
  | .popf _ => true
  | .push _ => true
  | .pushf _ => true
  | .ldp _ => true
  | .ldfi _ _ => true
  | .ldii _ _ => true
  | .stfi _ _ => true
  | .stii _ _ => true
  | .sigi => true
  | .rol _ => true
  | .rolc _ => true
  | .ror _ => true
  | .rorc _ => true
  | .idle => true
  | .idle2 => true
  | .nop _ => true
  | .maxspeed => true
  | .lopower => true
  | .rpts _ => true
  | .iack _ => true
  | .addc3 src1 src2 _ => src1.wf && src2.wf
  | .addf3 src1 src2 _ => src1.wf && src2.wf
  | .addi3 src1 src2 _ => src1.wf && src2.wf
  | .and3 src1 src2 _ => src1.wf && src2.wf
  | .andn3 src1 src2 _ => src1.wf && src2.wf
  | .ash3 src count _ => src.wf && count.wf
  | .cmpf3 src1 src2 => src1.wf && src2.wf
  | .cmpi3 src1 src2 => src1.wf && src2.wf
  | .lsh3 src count _ => src.wf && count.wf
  | .mpyf3 src1 src2 _ => src1.wf && src2.wf
  | .mpyi3 src1 src2 _ => src1.wf && src2.wf
  | .or3 src1 src2 _ => src1.wf && src2.wf
  | .subb3 src1 src2 _ => src1.wf && src2.wf
  | .subf3 src1 src2 _ => src1.wf && src2.wf
  | .subi3 src1 src2 _ => src1.wf && src2.wf
  | .tstb3 src1 src2 => src1.wf && src2.wf
  | .xor3 src1 src2 _ => src1.wf && src2.wf
  | .ldfcond _ _ _ => true
  | .ldicond _ _ _ => true
  | .br _ => true
  | .brd _ => true
  | .call _ => true
  | .rptb _ => true
  | .swi => true
  | .bcond _ _ => true
  | .bcondD _ _ => true
  | .dbcond _ _ _ => true
  | .dbcondD _ _ _ => true
  | .callcond _ _ => true
  | .trapcond _ _ => true
  | .reticond _ => true
  | .retscond _ => true
  | .mpyf3Addf3 p => p.wf
  | .mpyf3Subf3 p => p.wf
  | .mpyi3Addi3 p => p.wf
  | .mpyi3Subi3 p => p.wf
  | .stfStf p => p.wf
  | .stiSti p => p.wf
  | .ldfLdf p => p.wf
  | .ldiLdi p => p.wf
  | .absfStf p => p.wf
  | .absiSti p => p.wf
  | .addf3Stf p => p.wf
  | .addi3Sti p => p.wf
  | .and3Sti p => p.wf
  | .ash3Sti p => p.wf
  | .fixSti p => p.wf
  | .floatStf p => p.wf
  | .ldfStf p => p.wf
  | .ldiSti p => p.wf
  | .lsh3Sti p => p.wf
  | .mpyf3Stf p => p.wf
  | .mpyi3Sti p => p.wf
  | .negfStf p => p.wf
  | .negiSti p => p.wf
  | .notSti p => p.wf
  | .or3Sti p => p.wf
  | .subf3Stf p => p.wf
  | .subi3Sti p => p.wf
  | .xor3Sti p => p.wf

end Sys2Proof
end

