-- ==== Sys2Proof/Decode.lean ====
section
/-! DEFINITION. The binary annex of spec/30_encoding.md (R110 to R131, all from general knowledge there; log 1):
a decoder, total on words and rejecting by name, and an encoder written from the same tables. -/

namespace Sys2Proof

/-- Why a word is no instruction (R105, R131). All of them are the spec's refusals: safe. -/
inductive DecodeError where
  /-- the word matches no row (R131) -/
  | unassignedWord
  /-- a register field names no register, or none the operand allows (R105, R167) -/
  | noSuchRegister
  /-- a condition field names no condition (R105, R111) -/
  | noSuchCondition
  /-- a `mod` field names no row of Tabla 3-3 (R105, R115) -/
  | noSuchIndirectForm
  /-- an operand form the legend of Tabla 3-12 does not allow there (R105, R221) -/
  | operandForm
  /-- a field the annex says is zero is not (R112, R121; log 1) -/
  | fillNotZero
  deriving DecidableEq, Repr

/-! ## Fields -/

/-- The 3-bit field of R0 to R7 or AR0 to AR7 (R110). -/
def num3 (n : Fin 8) : BitVec 3 := BitVec.ofFin n

/-- The 5-bit field of a trap number (R119). -/
def num5 (n : Fin 32) : BitVec 5 := BitVec.ofFin n

/-- Register numbers (R110). -/
def Reg.code : Reg → BitVec 5
  | .r n => 0b00#2 ++ num3 n
  | .ar n => 0b01#2 ++ num3 n
  | .dp => 0x10#5 | .ir0 => 0x11#5 | .ir1 => 0x12#5 | .bk => 0x13#5 | .sp => 0x14#5 | .st => 0x15#5
  | .ie => 0x16#5 | .ifr => 0x17#5 | .iof => 0x18#5 | .rs => 0x19#5 | .re => 0x1A#5 | .rc => 0x1B#5

/-- The R0 to R7 that a 3-bit field names. -/
def rnOf3 (b : BitVec 3) : Rn := b.toFin

/-- The 5-bit field of a register that must be R0 to R7 (R167). -/
def rnCode (n : Rn) : BitVec 5 := 0b00#2 ++ num3 n

def regOf (b : BitVec 5) : Except DecodeError Reg :=
  match (b.extractLsb' 3 2).toNat, (b.extractLsb' 0 3).toNat with
  | 0, _ => .ok (.r (rnOf3 (b.extractLsb' 0 3)))
  | 1, _ => .ok (.ar (rnOf3 (b.extractLsb' 0 3)))
  | 2, 0 => .ok .dp
  | 2, 1 => .ok .ir0
  | 2, 2 => .ok .ir1
  | 2, 3 => .ok .bk
  | 2, 4 => .ok .sp
  | 2, 5 => .ok .st
  | 2, 6 => .ok .ie
  | 2, 7 => .ok .ifr
  | 3, 0 => .ok .iof
  | 3, 1 => .ok .rs
  | 3, 2 => .ok .re
  | 3, 3 => .ok .rc
  | _, _ => .error .noSuchRegister

def rnOf (b : BitVec 5) : Except DecodeError Rn :=
  if b.extractLsb' 3 2 = 0b00#2 then .ok (rnOf3 (b.extractLsb' 0 3)) else .error .noSuchRegister

/-- Condition numbers (R111). -/
def Cond.code : Cond → BitVec 5
  | .u => 0#5 | .lo => 1#5 | .ls => 2#5 | .hi => 3#5 | .hs => 4#5 | .eq => 5#5 | .ne => 6#5 | .lt => 7#5
  | .le => 8#5 | .gt => 9#5 | .ge => 10#5 | .nv => 12#5 | .v => 13#5 | .nuf => 14#5 | .uf => 15#5
  | .nlv => 16#5 | .lv => 17#5 | .nluf => 18#5 | .luf => 19#5 | .zuf => 20#5

def condOf (b : BitVec 5) : Except DecodeError Cond :=
  match b.toNat with
  | 0 => .ok .u | 1 => .ok .lo | 2 => .ok .ls | 3 => .ok .hi | 4 => .ok .hs | 5 => .ok .eq | 6 => .ok .ne
  | 7 => .ok .lt | 8 => .ok .le | 9 => .ok .gt | 10 => .ok .ge | 12 => .ok .nv | 13 => .ok .v | 14 => .ok .nuf
  | 15 => .ok .uf | 16 => .ok .nlv | 17 => .ok .lv | 18 => .ok .nluf | 19 => .ok .luf | 20 => .ok .zuf
  | _ => .error .noSuchCondition

/-- The low three bits of `mod` (R115). -/
def IndMode.code : IndMode → BitVec 3
  | .preAdd => 0#3 | .preSub => 1#3 | .preAddMod => 2#3 | .preSubMod => 3#3
  | .postAdd => 4#3 | .postSub => 5#3 | .postAddCirc => 6#3 | .postSubCirc => 7#3

def indModeOf (b : BitVec 3) : IndMode :=
  match b.toNat with
  | 0 => .preAdd | 1 => .preSub | 2 => .preAddMod | 3 => .preSubMod
  | 4 => .postAdd | 5 => .postSub | 6 => .postAddCirc | _ => .postSubCirc

/-- The `mod` field (R115). -/
def Indirect.mod : Indirect → BitVec 5
  | .indexed m (.disp _) _ => 0b00#2 ++ m.code
  | .indexed m .ir0 _ => 0b01#2 ++ m.code
  | .indexed m .ir1 _ => 0b10#2 ++ m.code
  | .plain _ => 0b11000#5
  | .bitrev _ => 0b11001#5

def Indirect.arNum : Indirect → ARn
  | .indexed _ _ n | .plain n | .bitrev n => n

/-- The `disp` field; 0 in the forms that take none. -/
def Indirect.dispByte : Indirect → BitVec 8
  | .indexed _ (.disp d) _ => d
  | .indexed _ .ir0 _ | .indexed _ .ir1 _ | .plain _ | .bitrev _ => 0#8

/-- The operand named by a `mod` field, an ARn field and a displacement (R115). DESIGN CHOICE (log 1): the annex
does not say what the displacement byte of format G holds in the forms that take no displacement (the IR0 and IR1
forms, `*ARn`, `*ARn++(IR0)B`); it is not read there. -/
def indirectOf (md : BitVec 5) (ar : BitVec 3) (d : BitVec 8) : Except DecodeError Indirect :=
  match (md.extractLsb' 3 2).toNat, (md.extractLsb' 0 3).toNat with
  | 0, _ => .ok (.indexed (indModeOf (md.extractLsb' 0 3)) (.disp d) (rnOf3 ar))
  | 1, _ => .ok (.indexed (indModeOf (md.extractLsb' 0 3)) .ir0 (rnOf3 ar))
  | 2, _ => .ok (.indexed (indModeOf (md.extractLsb' 0 3)) .ir1 (rnOf3 ar))
  | 3, 0 => .ok (.plain (rnOf3 ar))
  | 3, 1 => .ok (.bitrev (rnOf3 ar))
  | _, _ => .error .noSuchIndirectForm

/-- The 16-bit indirect field of format G (R112). -/
def Indirect.field16 (i : Indirect) : BitVec 16 := i.mod ++ num3 i.arNum ++ i.dispByte

def indirectOf16 (s : BitVec 16) : Except DecodeError Indirect :=
  indirectOf (s.extractLsb' 11 5) (s.extractLsb' 8 3) (s.extractLsb' 0 8)

/-- The 8-bit indirect field of format T and of the parallel formats; the displacement is 1 (R114, R222). -/
def Indirect.field8 (i : Indirect) : BitVec 8 := i.mod ++ num3 i.arNum

def indirectOf8 (s : BitVec 8) : Except DecodeError Indirect :=
  indirectOf (s.extractLsb' 3 5) (s.extractLsb' 0 3) 1#8

/-! ## Operands of format G (R112) -/

def MemOp.g : MemOp → BitVec 2
  | .dir _ => 0b01#2
  | .ind _ => 0b10#2

def MemOp.field : MemOp → BitVec 16
  | .dir k => k
  | .ind i => i.field16

def memOpOf (g : BitVec 2) (s : BitVec 16) : Except DecodeError MemOp :=
  match g.toNat with
  | 1 => .ok (.dir s)
  | 2 => do
    let i ← indirectOf16 s
    .ok (.ind i)
  | _ => .error .operandForm

def Src.g : Src → BitVec 2
  | .reg _ => 0b00#2
  | .mem m => m.g
  | .imm _ => 0b11#2

def Src.field : Src → BitVec 16
  | .reg r => 0#11 ++ r.code
  | .mem m => m.field
  | .imm k => k

/-- The register number of a G = 00 field, whose bits 15:5 are zero (R112). -/
def regField (s : BitVec 16) : Except DecodeError (BitVec 5) :=
  if s.extractLsb' 5 11 = 0#11 then .ok (s.extractLsb' 0 5) else .error .fillNotZero

def srcOf (g : BitVec 2) (s : BitVec 16) : Except DecodeError Src :=
  match g.toNat with
  | 0 => do
    let b ← regField s
    let r ← regOf b
    .ok (.reg r)
  | 3 => .ok (.imm s)
  | _ => do
    let m ← memOpOf g s
    .ok (.mem m)

def FSrc.g : FSrc → BitVec 2
  | .reg _ => 0b00#2
  | .mem m => m.g
  | .imm _ => 0b11#2

def FSrc.field : FSrc → BitVec 16
  | .reg n => 0#11 ++ rnCode n
  | .mem m => m.field
  | .imm k => k

def fsrcOf (g : BitVec 2) (s : BitVec 16) : Except DecodeError FSrc :=
  match g.toNat with
  | 0 => do
    let b ← regField s
    let n ← rnOf b
    .ok (.reg n)
  | 3 => .ok (.imm s)
  | _ => do
    let m ← memOpOf g s
    .ok (.mem m)

/-! ## Operands of format T (R114) and of the parallel formats (R120, R121) -/

def Src3.tBit : Src3 → BitVec 1
  | .reg _ => 0#1
  | .ind _ => 1#1

def Src3.field : Src3 → BitVec 8
  | .reg r => 0#3 ++ r.code
  | .ind i => i.field8

def src3Of (t : BitVec 1) (s : BitVec 8) : Except DecodeError Src3 :=
  if t = 0#1 then do
    let r ← regOf (s.extractLsb' 0 5)
    .ok (.reg r)
  else do
    let i ← indirectOf8 s
    .ok (.ind i)

def FSrc3.tBit : FSrc3 → BitVec 1
  | .reg _ => 0#1
  | .ind _ => 1#1

def FSrc3.field : FSrc3 → BitVec 8
  | .reg n => 0#3 ++ rnCode n
  | .ind i => i.field8

def fsrc3Of (t : BitVec 1) (s : BitVec 8) : Except DecodeError FSrc3 :=
  if t = 0#1 then do
    let n ← rnOf (s.extractLsb' 0 5)
    .ok (.reg n)
  else do
    let i ← indirectOf8 s
    .ok (.ind i)

/-! ## Operands of the branch formats (R118) -/

def Csrc.b : Csrc → BitVec 1
  | .reg _ => 0#1
  | .disp _ => 1#1

def Csrc.field : Csrc → BitVec 16
  | .reg r => 0#11 ++ r.code
  | .disp d => d

def csrcOf (b : BitVec 1) (s : BitVec 16) : Except DecodeError Csrc :=
  if b = 0#1 then do
    let r ← regOf (s.extractLsb' 0 5)
    .ok (.reg r)
  else .ok (.disp s)

/-! ## Word layouts -/

/-- Format G (R112). -/
def packG (op : BitVec 6) (g : BitVec 2) (d : BitVec 5) (s : BitVec 16) : Word := 0b000#3 ++ op ++ g ++ d ++ s

/-- Format T (R114). -/
def packT (op : BitVec 6) (t1 t2 : BitVec 1) (d : BitVec 5) (a b : BitVec 8) : Word :=
  0b001#3 ++ op ++ t2 ++ t1 ++ d ++ a ++ b

/-- Conditional loads (R116): `k` is 0 for LDFcond, 1 for LDIcond. -/
def packC (k : BitVec 1) (c : BitVec 5) (g : BitVec 2) (d : BitVec 5) (s : BitVec 16) : Word :=
  0b010#3 ++ k ++ c ++ g ++ d ++ s

/-- Long-immediate format (R117), bits 31:29 = 011. -/
def packL (op : BitVec 5) (a : Addr) : Word := 0b011#3 ++ op ++ a

/-- Conditional branches, calls (R118), traps and returns (R119): bits 31:29 = 011, then the format's bits
28:26, bit 25, bits 24:22, bit 21, the condition, bits 15:0. -/
def packB (op : BitVec 3) (b : BitVec 1) (ar : BitVec 3) (d : BitVec 1) (c : BitVec 5) (s : BitVec 16) : Word :=
  0b011#3 ++ op ++ b ++ ar ++ d ++ c ++ s

/-- Parallel multiply with add or subtract (R120). -/
def packM (op : BitVec 4) (p : BitVec 2) (d1 d2 : BitVec 1) (a b : BitVec 3) (c d : BitVec 8) : Word :=
  0b10#2 ++ op ++ p ++ d1 ++ d2 ++ a ++ b ++ c ++ d

/-- The other parallel instructions (R121). -/
def packS (op : BitVec 5) (x y z : BitVec 3) (hi lo : BitVec 8) : Word := 0b11#2 ++ op ++ x ++ y ++ z ++ hi ++ lo

def encodeOne (op : BitVec 5) (p : OneStore) : Word :=
  packS op (num3 p.dst1) 0#3 (num3 p.src3) p.dst2.field8 p.src2.field8

def encodeTwo (op : BitVec 5) (p : TwoStore) : Word :=
  packS op (num3 p.dst1) (num3 p.src1) (num3 p.src3) p.dst2.field8 p.src2.field8

/-- The field P and the operands A, B, C, D (R120): 00 is C × D with A ± B, 01 is C × A with D ± B, 10 is
A × B with C ± D, 11 is C × A with B ± D. An arrangement the field cannot name is packed as 0 (`MulPair.wf`
excludes it). -/
def encodeMul (op : BitVec 4) (p : MulPair) : Word :=
  let d1 := BitVec.ofBool p.op3R1
  let d2 := BitVec.ofBool p.op6R3
  match p.op1, p.op2, p.op4, p.op5 with
  | .ind c, .ind d, .reg a, .reg b => packM op 0b00#2 d1 d2 (num3 a) (num3 b) c.field8 d.field8
  | .ind c, .reg a, .ind d, .reg b => packM op 0b01#2 d1 d2 (num3 a) (num3 b) c.field8 d.field8
  | .reg a, .reg b, .ind c, .ind d => packM op 0b10#2 d1 d2 (num3 a) (num3 b) c.field8 d.field8
  | .ind c, .reg a, .reg b, .ind d => packM op 0b11#2 d1 d2 (num3 a) (num3 b) c.field8 d.field8
  | _, _, _, _ => packM op 0b00#2 d1 d2 0#3 0#3 0#8 0#8

/-- The word of an instruction (R112 to R121); for a well-formed one it decodes to it. -/
def encode : Instr → Word
  | .absi src dst => packG 0x01#6 src.g dst.code src.field
  | .addc src dst => packG 0x02#6 src.g dst.code src.field
  | .addi src dst => packG 0x04#6 src.g dst.code src.field
  | .and src dst => packG 0x05#6 src.g dst.code src.field
  | .andn src dst => packG 0x06#6 src.g dst.code src.field
  | .ash src dst => packG 0x07#6 src.g dst.code src.field
  | .cmpi src dst => packG 0x09#6 src.g dst.code src.field
  | .ldi src dst => packG 0x10#6 src.g dst.code src.field
  | .lsh src dst => packG 0x13#6 src.g dst.code src.field
  | .mpyi src dst => packG 0x15#6 src.g dst.code src.field
  | .negb src dst => packG 0x16#6 src.g dst.code src.field
  | .negi src dst => packG 0x18#6 src.g dst.code src.field
  | .not src dst => packG 0x1B#6 src.g dst.code src.field
  | .or src dst => packG 0x20#6 src.g dst.code src.field
  | .subb src dst => packG 0x2D#6 src.g dst.code src.field
  | .subc src dst => packG 0x2E#6 src.g dst.code src.field
  | .subi src dst => packG 0x30#6 src.g dst.code src.field
  | .subrb src dst => packG 0x31#6 src.g dst.code src.field
  | .subri src dst => packG 0x33#6 src.g dst.code src.field
  | .tstb src dst => packG 0x34#6 src.g dst.code src.field
  | .xor src dst => packG 0x35#6 src.g dst.code src.field
  | .absf src dst => packG 0x00#6 src.g (rnCode dst) src.field
  | .addf src dst => packG 0x03#6 src.g (rnCode dst) src.field
  | .cmpf src dst => packG 0x08#6 src.g (rnCode dst) src.field
  | .fix src dst => packG 0x0A#6 src.g dst.code src.field
  | .float src dst => packG 0x0B#6 src.g (rnCode dst) src.field
  | .lde src dst => packG 0x0D#6 src.g (rnCode dst) src.field
  | .ldf src dst => packG 0x0E#6 src.g (rnCode dst) src.field
  | .ldm src dst => packG 0x12#6 src.g (rnCode dst) src.field
  | .mpyf src dst => packG 0x14#6 src.g (rnCode dst) src.field
  | .negf src dst => packG 0x17#6 src.g (rnCode dst) src.field
  | .norm src dst => packG 0x1A#6 src.g (rnCode dst) src.field
  | .rnd src dst => packG 0x22#6 src.g (rnCode dst) src.field
  | .subf src dst => packG 0x2F#6 src.g (rnCode dst) src.field
  | .subrf src dst => packG 0x32#6 src.g (rnCode dst) src.field
  | .stf src daddr => packG 0x28#6 daddr.g (rnCode src) daddr.field
  | .sti src daddr => packG 0x2A#6 daddr.g src.code daddr.field
  | .pop dst => packG 0x1C#6 0b01#2 dst.code 0#16
  | .popf dst => packG 0x1D#6 0b01#2 (rnCode dst) 0#16
  | .push src => packG 0x1E#6 0b01#2 src.code 0#16
  | .pushf src => packG 0x1F#6 0b01#2 (rnCode src) 0#16
  | .ldp page => packG 0x10#6 0b11#2 0x10#5 (0#8 ++ page)
  | .ldfi src dst => packG 0x0F#6 src.g (rnCode dst) src.field
  | .ldii src dst => packG 0x11#6 src.g dst.code src.field
  | .stfi src daddr => packG 0x29#6 daddr.g (rnCode src) daddr.field
  | .stii src daddr => packG 0x2B#6 daddr.g src.code daddr.field
  | .sigi => packG 0x2C#6 0b00#2 0#5 0#16
  | .rol dst => packG 0x23#6 0b11#2 dst.code 0x0001#16
  | .rolc dst => packG 0x24#6 0b11#2 dst.code 0x0001#16
  | .ror dst => packG 0x25#6 0b11#2 dst.code 0xFFFF#16
  | .rorc dst => packG 0x26#6 0b11#2 dst.code 0xFFFF#16
  | .idle => packG 0x0C#6 0b00#2 0#5 0#16
  | .idle2 => packG 0x0C#6 0b00#2 0#5 1#16
  | .nop none => packG 0x19#6 0b00#2 0#5 0#16
  | .nop (some i) => packG 0x19#6 0b10#2 0#5 i.field16
  | .maxspeed => packG 0x21#6 0b00#2 0#5 0#16
  | .lopower => packG 0x21#6 0b00#2 0#5 1#16
  | .rpts src => packG 0x27#6 src.g 0x1B#5 src.field
  | .iack src => packG 0x36#6 src.g 0#5 src.field
  | .addc3 src1 src2 dst => packT 0x00#6 src1.tBit src2.tBit dst.code src1.field src2.field
  | .addf3 src1 src2 dst => packT 0x01#6 src1.tBit src2.tBit (rnCode dst) src1.field src2.field
  | .addi3 src1 src2 dst => packT 0x02#6 src1.tBit src2.tBit dst.code src1.field src2.field
  | .and3 src1 src2 dst => packT 0x03#6 src1.tBit src2.tBit dst.code src1.field src2.field
  | .andn3 src1 src2 dst => packT 0x04#6 src1.tBit src2.tBit dst.code src1.field src2.field
  | .ash3 src count dst => packT 0x05#6 src.tBit count.tBit dst.code src.field count.field
  | .cmpf3 src1 src2 => packT 0x06#6 src1.tBit src2.tBit 0#5 src1.field src2.field
  | .cmpi3 src1 src2 => packT 0x07#6 src1.tBit src2.tBit 0#5 src1.field src2.field
  | .lsh3 src count dst => packT 0x08#6 src.tBit count.tBit dst.code src.field count.field
  | .mpyf3 src1 src2 dst => packT 0x09#6 src1.tBit src2.tBit (rnCode dst) src1.field src2.field
  | .mpyi3 src1 src2 dst => packT 0x0A#6 src1.tBit src2.tBit dst.code src1.field src2.field
  | .or3 src1 src2 dst => packT 0x0B#6 src1.tBit src2.tBit dst.code src1.field src2.field
  | .subb3 src1 src2 dst => packT 0x0C#6 src1.tBit src2.tBit dst.code src1.field src2.field
  | .subf3 src1 src2 dst => packT 0x0D#6 src1.tBit src2.tBit (rnCode dst) src1.field src2.field
  | .subi3 src1 src2 dst => packT 0x0E#6 src1.tBit src2.tBit dst.code src1.field src2.field
  | .tstb3 src1 src2 => packT 0x0F#6 src1.tBit src2.tBit 0#5 src1.field src2.field
  | .xor3 src1 src2 dst => packT 0x10#6 src1.tBit src2.tBit dst.code src1.field src2.field
  | .ldfcond c src dst => packC 0#1 c.code src.g (rnCode dst) src.field
  | .ldicond c src dst => packC 1#1 c.code src.g dst.code src.field
  | .br addr => packL 0x00#5 addr
  | .brd addr => packL 0x01#5 addr
  | .call addr => packL 0x02#5 addr
  | .rptb addr => packL 0x04#5 addr
  | .swi => packL 0x06#5 0#24
  | .bcond c csrc => packB 0b010#3 csrc.b 0#3 0#1 c.code csrc.field
  | .bcondD c csrc => packB 0b010#3 csrc.b 0#3 1#1 c.code csrc.field
  | .dbcond c ar csrc => packB 0b011#3 csrc.b (num3 ar) 0#1 c.code csrc.field
  | .dbcondD c ar csrc => packB 0b011#3 csrc.b (num3 ar) 1#1 c.code csrc.field
  | .callcond c csrc => packB 0b100#3 csrc.b 0#3 0#1 c.code csrc.field
  | .trapcond c n => packB 0b101#3 0#1 0#3 0#1 c.code (0b00000000001#11 ++ num5 n)
  | .reticond c => packB 0b110#3 0#1 0#3 0#1 c.code 0#16
  | .retscond c => packB 0b110#3 0#1 0b010#3 0#1 c.code 0#16
  | .mpyf3Addf3 p => encodeMul 0x00#4 p
  | .mpyf3Subf3 p => encodeMul 0x01#4 p
  | .mpyi3Addi3 p => encodeMul 0x02#4 p
  | .mpyi3Subi3 p => encodeMul 0x03#4 p
  | .stfStf p => packS 0x00#5 (num3 p.src1) 0#3 (num3 p.src3) p.dst2.field8 p.dst1.field8
  | .stiSti p => packS 0x01#5 (num3 p.src1) 0#3 (num3 p.src3) p.dst2.field8 p.dst1.field8
  | .ldfLdf p => packS 0x02#5 (num3 p.dst1) (num3 p.dst2) 0#3 p.src4.field8 p.src2.field8
  | .ldiLdi p => packS 0x03#5 (num3 p.dst1) (num3 p.dst2) 0#3 p.src4.field8 p.src2.field8
  | .absfStf p => encodeOne 0x04#5 p
  | .absiSti p => encodeOne 0x05#5 p
  | .addf3Stf p => encodeTwo 0x06#5 p
  | .addi3Sti p => encodeTwo 0x07#5 p
  | .and3Sti p => encodeTwo 0x08#5 p
  | .ash3Sti p => encodeTwo 0x09#5 p
  | .fixSti p => encodeOne 0x0A#5 p
  | .floatStf p => encodeOne 0x0B#5 p
  | .ldfStf p => encodeOne 0x0C#5 p
  | .ldiSti p => encodeOne 0x0D#5 p
  | .lsh3Sti p => encodeTwo 0x0E#5 p
  | .mpyf3Stf p => encodeTwo 0x0F#5 p
  | .mpyi3Sti p => encodeTwo 0x10#5 p
  | .negfStf p => encodeOne 0x11#5 p
  | .negiSti p => encodeOne 0x12#5 p
  | .notSti p => encodeOne 0x13#5 p
  | .or3Sti p => encodeTwo 0x14#5 p
  | .subf3Stf p => encodeTwo 0x15#5 p
  | .subi3Sti p => encodeTwo 0x16#5 p
  | .xor3Sti p => encodeTwo 0x17#5 p

/-! ## The decoder -/

/-- A two-operand integer instruction of format G. -/
def decInt (k : Src → Reg → Instr) (w : Word) : Except DecodeError Instr := do
  let s ← srcOf (w.extractLsb' 21 2) (w.extractLsb' 0 16)
  let d ← regOf (w.extractLsb' 16 5)
  .ok (k s d)

/-- A two-operand float instruction of format G. -/
def decFlt (k : FSrc → Rn → Instr) (w : Word) : Except DecodeError Instr := do
  let s ← fsrcOf (w.extractLsb' 21 2) (w.extractLsb' 0 16)
  let d ← rnOf (w.extractLsb' 16 5)
  .ok (k s d)

/-- A format-G instruction with a register of the 28 and a memory operand. -/
def decRegMem (k : Reg → MemOp → Instr) (w : Word) : Except DecodeError Instr := do
  let m ← memOpOf (w.extractLsb' 21 2) (w.extractLsb' 0 16)
  let r ← regOf (w.extractLsb' 16 5)
  .ok (k r m)

/-- A format-G instruction with one of R0 to R7 and a memory operand. -/
def decRnMem (k : Rn → MemOp → Instr) (w : Word) : Except DecodeError Instr := do
  let m ← memOpOf (w.extractLsb' 21 2) (w.extractLsb' 0 16)
  let r ← rnOf (w.extractLsb' 16 5)
  .ok (k r m)

/-- A format-G instruction whose G and low 16 bits are fixed, with a register of the 28. -/
def decReg (g : BitVec 2) (low : BitVec 16) (k : Reg → Instr) (w : Word) : Except DecodeError Instr :=
  if w.extractLsb' 21 2 = g ∧ w.extractLsb' 0 16 = low then do
    let r ← regOf (w.extractLsb' 16 5)
    .ok (k r)
  else .error .unassignedWord

/-- A format-G instruction whose G and low 16 bits are fixed, with one of R0 to R7. -/
def decRn (g : BitVec 2) (low : BitVec 16) (k : Rn → Instr) (w : Word) : Except DecodeError Instr :=
  if w.extractLsb' 21 2 = g ∧ w.extractLsb' 0 16 = low then do
    let r ← rnOf (w.extractLsb' 16 5)
    .ok (k r)
  else .error .unassignedWord

/-- Two whole words that share an operation number (R113: IDLE and IDLE2, MAXSPEED and LOPOWER). -/
def decTwoWords (even odd : Instr) (w : Word) : Except DecodeError Instr :=
  if w.extractLsb' 16 7 = 0#7 then
    match (w.extractLsb' 0 16).toNat with
    | 0 => .ok even
    | 1 => .ok odd
    | _ => .error .unassignedWord
  else .error .unassignedWord

/-- LDI, whose load-immediate of a page into DP is LDP (R113, R238). -/
def decLdi (w : Word) : Except DecodeError Instr :=
  if w.extractLsb' 8 15 = 0b111000000000000#15 then .ok (.ldp (w.extractLsb' 0 8))
  else decInt .ldi w

/-- NOP: the whole word 0C800000h, or with one indirect operand (R372). DESIGN CHOICE (log 1): the annex does not say
what bits 20:16 hold in a NOP with an indirect operand; they are not read there. -/
def decNop (w : Word) : Except DecodeError Instr :=
  match (w.extractLsb' 21 2).toNat with
  | 0 => if w.extractLsb' 0 21 = 0#21 then .ok (.nop none) else .error .operandForm
  | 2 => do
    let i ← indirectOf16 (w.extractLsb' 0 16)
    .ok (.nop (some i))
  | _ => .error .operandForm

def decRpts (w : Word) : Except DecodeError Instr :=
  if w.extractLsb' 16 5 = 0x1B#5 then do
    let s ← srcOf (w.extractLsb' 21 2) (w.extractLsb' 0 16)
    .ok (.rpts s)
  else .error .unassignedWord

def decIack (w : Word) : Except DecodeError Instr :=
  if w.extractLsb' 16 5 = 0#5 then do
    let m ← memOpOf (w.extractLsb' 21 2) (w.extractLsb' 0 16)
    .ok (.iack m)
  else .error .unassignedWord

/-- Format G by operation number (R113). -/
def decodeG (w : Word) : Except DecodeError Instr :=
  match (w.extractLsb' 23 6).toNat with
  | 0x00 => decFlt .absf w
  | 0x01 => decInt .absi w
  | 0x02 => decInt .addc w
  | 0x03 => decFlt .addf w
  | 0x04 => decInt .addi w
  | 0x05 => decInt .and w
  | 0x06 => decInt .andn w
  | 0x07 => decInt .ash w
  | 0x08 => decFlt .cmpf w
  | 0x09 => decInt .cmpi w
  | 0x0A => do
    let s ← fsrcOf (w.extractLsb' 21 2) (w.extractLsb' 0 16)
    let d ← regOf (w.extractLsb' 16 5)
    .ok (.fix s d)
  | 0x0B => do
    let s ← srcOf (w.extractLsb' 21 2) (w.extractLsb' 0 16)
    let d ← rnOf (w.extractLsb' 16 5)
    .ok (.float s d)
  | 0x0C => decTwoWords .idle .idle2 w
  | 0x0D => decFlt .lde w
  | 0x0E => decFlt .ldf w
  | 0x0F => decRnMem (fun d m => .ldfi m d) w
  | 0x10 => decLdi w
  | 0x11 => decRegMem (fun d m => .ldii m d) w
  | 0x12 => decFlt .ldm w
  | 0x13 => decInt .lsh w
  | 0x14 => decFlt .mpyf w
  | 0x15 => decInt .mpyi w
  | 0x16 => decInt .negb w
  | 0x17 => decFlt .negf w
  | 0x18 => decInt .negi w
  | 0x19 => decNop w
  | 0x1A => decFlt .norm w
  | 0x1B => decInt .not w
  | 0x1C => decReg 0b01#2 0#16 .pop w
  | 0x1D => decRn 0b01#2 0#16 .popf w
  | 0x1E => decReg 0b01#2 0#16 .push w
  | 0x1F => decRn 0b01#2 0#16 .pushf w
  | 0x20 => decInt .or w
  | 0x21 => decTwoWords .maxspeed .lopower w
  | 0x22 => decFlt .rnd w
  | 0x23 => decReg 0b11#2 0x0001#16 .rol w
  | 0x24 => decReg 0b11#2 0x0001#16 .rolc w
  | 0x25 => decReg 0b11#2 0xFFFF#16 .ror w
  | 0x26 => decReg 0b11#2 0xFFFF#16 .rorc w
  | 0x27 => decRpts w
  | 0x28 => decRnMem .stf w
  | 0x29 => decRnMem .stfi w
  | 0x2A => decRegMem .sti w
  | 0x2B => decRegMem .stii w
  | 0x2C => if w.extractLsb' 0 23 = 0#23 then .ok .sigi else .error .unassignedWord
  | 0x2D => decInt .subb w
  | 0x2E => decInt .subc w
  | 0x2F => decFlt .subf w
  | 0x30 => decInt .subi w
  | 0x31 => decInt .subrb w
  | 0x32 => decFlt .subrf w
  | 0x33 => decInt .subri w
  | 0x34 => decInt .tstb w
  | 0x35 => decInt .xor w
  | 0x36 => decIack w
  | _ => .error .unassignedWord

/-- A three-operand integer instruction (R114). -/
def decT (k : Src3 → Src3 → Reg → Instr) (w : Word) : Except DecodeError Instr := do
  let a ← src3Of (w.extractLsb' 21 1) (w.extractLsb' 8 8)
  let b ← src3Of (w.extractLsb' 22 1) (w.extractLsb' 0 8)
  let d ← regOf (w.extractLsb' 16 5)
  .ok (k a b d)

/-- A three-operand float instruction (R114). -/
def decTF (k : FSrc3 → FSrc3 → Rn → Instr) (w : Word) : Except DecodeError Instr := do
  let a ← fsrc3Of (w.extractLsb' 21 1) (w.extractLsb' 8 8)
  let b ← fsrc3Of (w.extractLsb' 22 1) (w.extractLsb' 0 8)
  let d ← rnOf (w.extractLsb' 16 5)
  .ok (k a b d)

/-- A three-operand integer instruction without a destination (R274, R276, R321: the field is not read). -/
def decTNoDst (k : Src3 → Src3 → Instr) (w : Word) : Except DecodeError Instr := do
  let a ← src3Of (w.extractLsb' 21 1) (w.extractLsb' 8 8)
  let b ← src3Of (w.extractLsb' 22 1) (w.extractLsb' 0 8)
  .ok (k a b)

/-- CMPF3. -/
def decTFNoDst (k : FSrc3 → FSrc3 → Instr) (w : Word) : Except DecodeError Instr := do
  let a ← fsrc3Of (w.extractLsb' 21 1) (w.extractLsb' 8 8)
  let b ← fsrc3Of (w.extractLsb' 22 1) (w.extractLsb' 0 8)
  .ok (k a b)

/-- Format T by operation number (R114). -/
def decodeT (w : Word) : Except DecodeError Instr :=
  match (w.extractLsb' 23 6).toNat with
  | 0x00 => decT .addc3 w
  | 0x01 => decTF .addf3 w
  | 0x02 => decT .addi3 w
  | 0x03 => decT .and3 w
  | 0x04 => decT .andn3 w
  | 0x05 => decT .ash3 w
  | 0x06 => decTFNoDst .cmpf3 w
  | 0x07 => decTNoDst .cmpi3 w
  | 0x08 => decT .lsh3 w
  | 0x09 => decTF .mpyf3 w
  | 0x0A => decT .mpyi3 w
  | 0x0B => decT .or3 w
  | 0x0C => decT .subb3 w
  | 0x0D => decTF .subf3 w
  | 0x0E => decT .subi3 w
  | 0x0F => decTNoDst .tstb3 w
  | 0x10 => decT .xor3 w
  | _ => .error .unassignedWord

/-- Conditional loads (R116). -/
def decodeC (w : Word) : Except DecodeError Instr := do
  let c ← condOf (w.extractLsb' 23 5)
  if w.extractLsb' 28 1 = 0#1 then decFlt (.ldfcond c) w else decInt (.ldicond c) w

/-- The operand of a branch or call (R118). -/
def decCsrc (w : Word) : Except DecodeError Csrc := csrcOf (w.extractLsb' 25 1) (w.extractLsb' 0 16)

/-- Bits 31:29 = 011: long immediates (R117), branches and calls (R118), traps and returns (R119). -/
def decodeB (w : Word) : Except DecodeError Instr :=
  match (w.extractLsb' 26 3).toNat with
  | 0b010 =>
    if w.extractLsb' 22 3 = 0#3 then do
      let c ← condOf (w.extractLsb' 16 5)
      let t ← decCsrc w
      .ok (if w.extractLsb' 21 1 = 0#1 then .bcond c t else .bcondD c t)
    else .error .unassignedWord
  | 0b011 => do
    let c ← condOf (w.extractLsb' 16 5)
    let t ← decCsrc w
    .ok (if w.extractLsb' 21 1 = 0#1 then .dbcond c (rnOf3 (w.extractLsb' 22 3)) t
         else .dbcondD c (rnOf3 (w.extractLsb' 22 3)) t)
  | 0b100 =>
    if w.extractLsb' 21 4 = 0#4 then do
      let c ← condOf (w.extractLsb' 16 5)
      let t ← decCsrc w
      .ok (.callcond c t)
    else .error .unassignedWord
  | 0b101 =>
    if w.extractLsb' 21 5 = 0#5 ∧ w.extractLsb' 5 11 = 1#11 then do
      let c ← condOf (w.extractLsb' 16 5)
      .ok (.trapcond c (w.extractLsb' 0 5).toFin)
    else .error .unassignedWord
  | 0b110 =>
    if w.extractLsb' 0 16 = 0#16 then
      match (w.extractLsb' 21 5).toNat with
      | 0b00000 => do
        let c ← condOf (w.extractLsb' 16 5)
        .ok (.reticond c)
      | 0b00100 => do
        let c ← condOf (w.extractLsb' 16 5)
        .ok (.retscond c)
      | _ => .error .unassignedWord
    else .error .unassignedWord
  | _ =>
    match (w.extractLsb' 24 5).toNat with
    | 0x00 => .ok (.br (w.extractLsb' 0 24))
    | 0x01 => .ok (.brd (w.extractLsb' 0 24))
    | 0x02 => .ok (.call (w.extractLsb' 0 24))
    | 0x04 => .ok (.rptb (w.extractLsb' 0 24))
    | 0x06 => if w.extractLsb' 0 24 = 0#24 then .ok .swi else .error .unassignedWord
    | _ => .error .unassignedWord

/-- The operands of a parallel multiply (R120). -/
def mulPairOf (w : Word) : Except DecodeError MulPair := do
  let c ← indirectOf8 (w.extractLsb' 8 8)
  let d ← indirectOf8 (w.extractLsb' 0 8)
  let a := FSrc3.reg (rnOf3 (w.extractLsb' 19 3))
  let b := FSrc3.reg (rnOf3 (w.extractLsb' 16 3))
  let d1 := w.getLsbD 23
  let d2 := w.getLsbD 22
  match (w.extractLsb' 24 2).toNat with
  | 0 => .ok ⟨.ind c, .ind d, d1, a, b, d2⟩
  | 1 => .ok ⟨.ind c, a, d1, .ind d, b, d2⟩
  | 2 => .ok ⟨a, b, d1, .ind c, .ind d, d2⟩
  | _ => .ok ⟨.ind c, a, d1, b, .ind d, d2⟩

/-- Parallel multiplies by operation number (R120). -/
def decodeM (w : Word) : Except DecodeError Instr :=
  match (w.extractLsb' 26 4).toNat with
  | 0 => do
    let p ← mulPairOf w
    .ok (.mpyf3Addf3 p)
  | 1 => do
    let p ← mulPairOf w
    .ok (.mpyf3Subf3 p)
  | 2 => do
    let p ← mulPairOf w
    .ok (.mpyi3Addi3 p)
  | 3 => do
    let p ← mulPairOf w
    .ok (.mpyi3Subi3 p)
  | _ => .error .unassignedWord

/-- A two-store pair (R121, the rows STF||STF and STI||STI of the opcode table). -/
def decStorePair (k : StorePair → Instr) (w : Word) : Except DecodeError Instr :=
  if w.extractLsb' 19 3 = 0#3 then do
    let b ← indirectOf8 (w.extractLsb' 8 8)
    let a ← indirectOf8 (w.extractLsb' 0 8)
    .ok (k ⟨rnOf3 (w.extractLsb' 22 3), a, rnOf3 (w.extractLsb' 16 3), b⟩)
  else .error .fillNotZero

/-- A two-load pair (R121, the rows LDF||LDF and LDI||LDI of the opcode table). -/
def decLoadPair (k : LoadPair → Instr) (w : Word) : Except DecodeError Instr :=
  if w.extractLsb' 16 3 = 0#3 then do
    let b ← indirectOf8 (w.extractLsb' 8 8)
    let a ← indirectOf8 (w.extractLsb' 0 8)
    .ok (k ⟨a, rnOf3 (w.extractLsb' 22 3), b, rnOf3 (w.extractLsb' 19 3)⟩)
  else .error .fillNotZero

/-- A one-source operation with a store (R121). -/
def decOne (k : OneStore → Instr) (w : Word) : Except DecodeError Instr :=
  if w.extractLsb' 19 3 = 0#3 then do
    let b ← indirectOf8 (w.extractLsb' 8 8)
    let a ← indirectOf8 (w.extractLsb' 0 8)
    .ok (k ⟨a, rnOf3 (w.extractLsb' 22 3), rnOf3 (w.extractLsb' 16 3), b⟩)
  else .error .fillNotZero

/-- A two-source operation with a store (R121). -/
def decTwo (k : TwoStore → Instr) (w : Word) : Except DecodeError Instr := do
  let b ← indirectOf8 (w.extractLsb' 8 8)
  let a ← indirectOf8 (w.extractLsb' 0 8)
  .ok (k ⟨rnOf3 (w.extractLsb' 19 3), a, rnOf3 (w.extractLsb' 22 3), rnOf3 (w.extractLsb' 16 3), b⟩)

/-- The other parallel instructions by operation number (R121). -/
def decodeS (w : Word) : Except DecodeError Instr :=
  match (w.extractLsb' 25 5).toNat with
  | 0x00 => decStorePair .stfStf w
  | 0x01 => decStorePair .stiSti w
  | 0x02 => decLoadPair .ldfLdf w
  | 0x03 => decLoadPair .ldiLdi w
  | 0x04 => decOne .absfStf w
  | 0x05 => decOne .absiSti w
  | 0x06 => decTwo .addf3Stf w
  | 0x07 => decTwo .addi3Sti w
  | 0x08 => decTwo .and3Sti w
  | 0x09 => decTwo .ash3Sti w
  | 0x0A => decOne .fixSti w
  | 0x0B => decOne .floatStf w
  | 0x0C => decOne .ldfStf w
  | 0x0D => decOne .ldiSti w
  | 0x0E => decTwo .lsh3Sti w
  | 0x0F => decTwo .mpyf3Stf w
  | 0x10 => decTwo .mpyi3Sti w
  | 0x11 => decOne .negfStf w
  | 0x12 => decOne .negiSti w
  | 0x13 => decOne .notSti w
  | 0x14 => decTwo .or3Sti w
  | 0x15 => decTwo .subf3Stf w
  | 0x16 => decTwo .subi3Sti w
  | 0x17 => decTwo .xor3Sti w
  | _ => .error .unassignedWord

/-- The instruction a word is, or why it is none (R105, R112 to R121, R131). -/
def decode (w : Word) : Except DecodeError Instr :=
  match (w.extractLsb' 29 3).toNat with
  | 0 => decodeG w
  | 1 => decodeT w
  | 2 => decodeC w
  | 3 => decodeB w
  | 4 | 5 => decodeM w
  | _ => decodeS w

/-- The decoder on an opcode-table word: `nbits` bits of it are given, the rest are 0 (R91: every instruction
is one 32-bit word). -/
def decodeTableWord (nbits w : Nat) : Option Instr :=
  match decode (BitVec.ofNat 32 (w % 2 ^ nbits)) with
  | .ok i => some i
  | .error _ => none

end Sys2Proof
end

