-- ==== Sys2Proof/Machine/Operands.lean ====
section
/-! DEFINITION. Addresses and operand values (spec/41_addressing_modes.md), and the checks on one auxiliary
register used twice (R211). -/

namespace Sys2Proof.Machine

/-! ## Indirect addresses (R193 to R215) -/

/-- The displacement d (R194). -/
def dispValue (d : Disp) (s : State) : Word :=
  match d with
  | .disp k => k.setWidth 32
  | .ir0 => s.ir0
  | .ir1 => s.ir1

/-- The new ARn: the low W bits of a sum, the rest unchanged (R199; log 25). -/
def arauWrite (w : ArauWidth) (old sum : Word) : Word :=
  match w with
  | .w32 => sum
  | .w24 => old.extractLsb' 24 8 ++ sum.extractLsb' 0 24

/-- `circ(A, +d)` and `circ(A, −d)` (R208), under the conditions of R209 (D19); BK and the step are read as
unsigned 32-bit numbers (log 47). -/
def circular (bk a d : Word) (down : Bool) : Res Word := do
  let size := bk.toNat
  let span := 2 ^ (Nat.log2 size + 1)
  let index := a.toNat % span
  let step := d.toNat
  need (decide (0 < size) && decide (index < size) && decide (step ≤ size)) .circularBounds
  let index' :=
    if down then (if step ≤ index then index - step else index + size - step)
    else (if size ≤ index + step then index + step - size else index + step)
  .ok (BitVec.ofNat 32 (a.toNat / span * span + index'))

/-- Addition with the carry going to less significant bits (R215). -/
def reverseAdd {n : Nat} (a b : BitVec n) : BitVec n := (a.reverse + b.reverse).reverse

/-- `rcadd` (R215). -/
def rcadd (w : ArauWidth) (a b : Word) : Word :=
  match w with
  | .w32 => reverseAdd a b
  | .w24 => a.extractLsb' 24 8 ++ reverseAdd (a.extractLsb' 0 24) (b.extractLsb' 0 24)

/-- The address of an indirect operand, and the state with its ARn updated (R200 to R214, R223). -/
def indirect (i : Indirect) (s : State) : Res (Addr × State) :=
  let w := s.params.arauWidth
  match i with
  | .plain n => .ok (low24 (s.arn n), s)
  | .bitrev n => .ok (low24 (s.arn n), s.setAr n (rcadd w (s.arn n) s.ir0))
  | .indexed m k n =>
    let a := s.arn n
    let d := dispValue k s
    match m with
    | .preAdd => .ok (low24 (a + d), s)
    | .preSub => .ok (low24 (a - d), s)
    | .preAddMod => .ok (low24 (a + d), s.setAr n (arauWrite w a (a + d)))
    | .preSubMod => .ok (low24 (a - d), s.setAr n (arauWrite w a (a - d)))
    | .postAdd => .ok (low24 a, s.setAr n (arauWrite w a (a + d)))
    | .postSub => .ok (low24 a, s.setAr n (arauWrite w a (a - d)))
    | .postAddCirc => do
      let v ← circular s.bk a d false
      .ok (low24 a, s.setAr n (arauWrite w a v))
    | .postSubCirc => do
      let v ← circular s.bk a d true
      .ok (low24 a, s.setAr n (arauWrite w a v))

/-- A direct address: 8 bits of DP and 16 of the instruction (R192). -/
def directAddress (k : BitVec 16) (s : State) : Addr := s.dp.extractLsb' 0 8 ++ k

/-- `EA(op)` (R223). -/
def ea (m : MemOp) (s : State) : Res (Addr × State) :=
  match m with
  | .dir k => .ok (directAddress k s, s)
  | .ind i => indirect i s

/-! ## One auxiliary register used twice (R211, D35) -/

/-- The form changes its ARn (R200 to R214). -/
def modifies (i : Indirect) : Bool :=
  match i with
  | .plain _ => false
  | .bitrev _ => true
  | .indexed m _ _ =>
    match m with
    | .preAdd | .preSub => false
    | .preAddMod | .preSubMod | .postAdd | .postSub | .postAddCirc | .postSubCirc => true

/-- The operand changes that register. -/
def clobbers (i : Indirect) (r : Reg) : Bool :=
  match r with
  | .ar n => modifies i && i.arNum == n
  | .r _ | .dp | .ir0 | .ir1 | .bk | .sp | .st | .ie | .ifr | .iof | .rs | .re | .rc => false

def memClobbers (m : MemOp) (r : Reg) : Bool :=
  match m with
  | .dir _ => false
  | .ind i => clobbers i r

def srcClobbers (x : Src) (r : Reg) : Bool :=
  match x with
  | .mem m => memClobbers m r
  | .reg _ | .imm _ => false

def fsrcClobbers (x : FSrc) (r : Reg) : Bool :=
  match x with
  | .mem m => memClobbers m r
  | .reg _ | .imm _ => false

def src3Clobbers (x : Src3) (r : Reg) : Bool :=
  match x with
  | .ind i => clobbers i r
  | .reg _ => false

def fsrc3Clobbers (x : FSrc3) (r : Reg) : Bool :=
  match x with
  | .ind i => clobbers i r
  | .reg _ => false

/-- The destination is not a register that an operand changes (R211). -/
def guardDest (clobbered : Bool) : Res Unit := need (!clobbered) .auxAlsoDestination

/-- The two operands go through one ARn and at least one of them changes it. -/
def clash (i j : Indirect) : Bool := i.arNum == j.arNum && (modifies i || modifies j)

/-- Two indirect operands do not clash (R211). -/
def guardPair (i j : Indirect) : Res Unit := need (!clash i j) .auxUsedTwice

def clash3 (x y : Src3) : Bool :=
  match x, y with
  | .ind i, .ind j => clash i j
  | .ind _, .reg _ | .reg _, .ind _ | .reg _, .reg _ => false

def fclash3 (x y : FSrc3) : Bool :=
  match x, y with
  | .ind i, .ind j => clash i j
  | .ind _, .reg _ | .reg _, .ind _ | .reg _, .reg _ => false

/-! ## Operand values (R224, R225)

Each takes the state before the instruction, `s0`, from which registers are read (R13), and the state so far,
in which the operands before it have made their updates. An operand of an instruction that can make two accesses
lets other agents act after it (R69). -/

/-- The word an indirect operand addresses. -/
def loadInd (i : Indirect) (s : State) : Res (Word × State) := do
  let (a, s1) ← indirect i s
  memRead a s1

/-- The word a memory operand addresses. -/
def loadMem (m : MemOp) (s : State) : Res (Word × State) := do
  let (a, s1) ← ea m s
  memRead a s1

/-- `srcInt(op, ext)` of a two-operand instruction (R224). -/
def srcInt (e : ImmExt) (x : Src) (s : State) : Res (Word × State) :=
  match x with
  | .reg r => do
    let v ← readInt r s
    .ok (v, s)
  | .mem m => loadMem m s
  | .imm k => .ok (widenImm e k, s)

/-- `srcFlt(op)` of a two-operand instruction (R225). -/
def srcFlt (x : FSrc) (s : State) : Res (Ext × State) :=
  match x with
  | .reg n => .ok (s.rn n, s)
  | .mem m => do
    let (w, s1) ← loadMem m s
    .ok (widen w, s1)
  | .imm k => .ok (widenShort k, s)

/-- `srcInt` of a three-operand instruction (R262). -/
def src3Int (s0 : State) (x : Src3) (s : State) : Res (Word × State) :=
  match x with
  | .reg r => do
    let v ← readInt r s0
    .ok (v, s)
  | .ind i => do
    let (w, s1) ← loadInd i s
    .ok (w, agentsAct s1)

/-- `srcFlt` of a three-operand instruction (R262) and of a parallel multiply (R428). -/
def src3Flt (s0 : State) (x : FSrc3) (s : State) : Res (Ext × State) :=
  match x with
  | .reg n => .ok (s0.rn n, s)
  | .ind i => do
    let (w, s1) ← loadInd i s
    .ok (widen w, agentsAct s1)

/-- The integer value of an operand of a parallel multiply (R428). -/
def mul3Int (s0 : State) (x : FSrc3) (s : State) : Res (Word × State) :=
  match x with
  | .reg n => .ok (intView (s0.rn n), s)
  | .ind i => do
    let (w, s1) ← loadInd i s
    .ok (w, agentsAct s1)

/-- Both operands of a three-operand integer instruction: read, and both ARn updates made (R262). -/
def both3Int (x y : Src3) (s : State) : Res (Word × Word × State) := do
  need (!clash3 x y) .auxUsedTwice
  let (a, s1) ← src3Int s x s
  let (b, s2) ← src3Int s y s1
  .ok (a, b, s2)

/-- Both operands of a three-operand float instruction (R262). -/
def both3Flt (x y : FSrc3) (s : State) : Res (Ext × Ext × State) := do
  need (!fclash3 x y) .auxUsedTwice
  let (a, s1) ← src3Flt s x s
  let (b, s2) ← src3Flt s y s1
  .ok (a, b, s2)

/-! ## Targets (R357) -/

/-- `target(Csrc)` of an instruction at `pc`, with the constant k of `BranchDispBase` (R102, R357). -/
def target (k : Nat) (c : Csrc) (s : State) : Res Addr :=
  match c with
  | .reg r => do
    let v ← readInt r s
    .ok (low24 v)
  | .disp d => .ok (s.pc + BitVec.ofNat 24 k + d.signExtend 24)

end Sys2Proof.Machine
end

