-- ==== Sys2Proof/Machine/Forms.lean ====
section
/-! DEFINITION. The shapes that the instructions of a family share: which operands are read, what is written,
and what follows. A meaning is one of these at its own operation. -/

namespace Sys2Proof.Machine

/-- `f(Dreg, src, C) → Dreg`, with the flags of class k. -/
def intOp (k : FlagClass) (e : ImmExt) (f : Word → Word → Bool → IntResult) (src : Src) (dst : Reg) (s : State) : Res State := do
  guardDest (srcClobbers src dst)
  let d ← readInt dst s
  let (v, s1) ← srcInt e src s
  let s2 ← putInt k dst (f d v s.st.c) s1
  .ok (sequential s2)

/-- `f(src, C) → Dreg`, with the flags of class k. -/
def intUnary (k : FlagClass) (e : ImmExt) (f : Word → Bool → IntResult) (src : Src) (dst : Reg) (s : State) : Res State := do
  guardDest (srcClobbers src dst)
  let (v, s1) ← srcInt e src s
  let s2 ← putInt k dst (f v s.st.c) s1
  .ok (sequential s2)

/-- The flags of `f(Dreg, src)`; Dreg is not written, so it is no destination for R211 (log 41). -/
def intTest (k : FlagClass) (e : ImmExt) (f : Word → Word → IntResult) (src : Src) (dst : Reg) (s : State) : Res State := do
  let d ← readInt dst s
  let (v, s1) ← srcInt e src s
  .ok (sequential (putFlags k (f d v).flags s1))

/-- `f(src1, src2, C) → Dreg`, with the flags of class k (R262). -/
def int3 (k : FlagClass) (f : Word → Word → Bool → IntResult) (src1 src2 : Src3) (dst : Reg) (s : State) : Res State := do
  guardDest (src3Clobbers src1 dst || src3Clobbers src2 dst)
  let (a, b, s1) ← both3Int src1 src2 s
  let s2 ← putInt k dst (f a b s.st.c) s1
  .ok (sequential s2)

/-- The flags of `f(src1, src2)`. -/
def intTest3 (k : FlagClass) (f : Word → Word → IntResult) (src1 src2 : Src3) (s : State) : Res State := do
  let (a, b, s1) ← both3Int src1 src2 s
  .ok (sequential (putFlags k (f a b).flags s1))

/-- `f(Rn, src) → Rn`, with the flags of class k (R261). -/
def fltOp (k : FlagClass) (f : Ext → Ext → FltResult) (src : FSrc) (dst : Rn) (s : State) : Res State := do
  let (v, s1) ← srcFlt src s
  .ok (sequential (putFlt k dst (f (s.rn dst) v) s1))

/-- `f(src) → Rn`, with the flags of class k. -/
def fltUnary (k : FlagClass) (f : Ext → FltResult) (src : FSrc) (dst : Rn) (s : State) : Res State := do
  let (v, s1) ← srcFlt src s
  .ok (sequential (putFlt k dst (f v) s1))

/-- `f(src1, src2) → Rn`, with the flags of class k (R262). -/
def flt3 (k : FlagClass) (f : Ext → Ext → FltResult) (src1 src2 : FSrc3) (dst : Rn) (s : State) : Res State := do
  let (a, b, s1) ← both3Flt src1 src2 s
  .ok (sequential (putFlt k dst (f a b) s1))

/-- A rotate: `f(Dreg, C) → Dreg` (spec/44_logic.md section 4). -/
def rotate (f : Word → Bool → IntResult) (dst : Reg) (s : State) : Res State := do
  let d ← readInt dst s
  let s1 ← putInt .rot dst (f d s.st.c) s
  .ok (sequential s1)

/-- Store a word at a memory operand's address (R243, R244). -/
def storeAt (v : Word) (daddr : MemOp) (s : State) : Res State := do
  let (a, s1) ← ea daddr s
  let s2 ← memWrite a v s1
  .ok (sequential s2)

end Sys2Proof.Machine
end

