-- ==== Sys2Proof/Machine/Arith.lean ====
section
/-! DEFINITION. Integer and float arithmetic and comparison (spec/43_arithmetic.md). -/

namespace Sys2Proof.Machine

/-! ## Absolute value and negation -/

/-- ABSF (R265). -/
def execAbsf (src : FSrc) (dst : Rn) (s : State) : Host.Outcome State Fault Refusal :=
  toOutcome (fltUnary .arithFlt fabs src dst s)

/-- ABSI (R266). -/
def execAbsi (src : Src) (dst : Reg) (s : State) : Host.Outcome State Fault Refusal :=
  toOutcome (intUnary .absInt .signed (fun v _ => absWord v) src dst s)

/-- NEGB (R281): 0 − src − C. -/
def execNegb (src : Src) (dst : Reg) (s : State) : Host.Outcome State Fault Refusal :=
  toOutcome (intUnary .arithInt .signed (fun v c => subWords 0 v c) src dst s)

/-- NEGF (R282). -/
def execNegf (src : FSrc) (dst : Rn) (s : State) : Host.Outcome State Fault Refusal :=
  toOutcome (fltUnary .arithFlt fneg src dst s)

/-- NEGI (R283). -/
def execNegi (src : Src) (dst : Reg) (s : State) : Host.Outcome State Fault Refusal :=
  toOutcome (intUnary .arithInt .signed (fun v _ => subWords 0 v false) src dst s)

/-! ## Addition -/

/-- ADDC (R267). -/
def execAddc (src : Src) (dst : Reg) (s : State) : Host.Outcome State Fault Refusal :=
  toOutcome (intOp .arithInt .signed (fun d v c => addWords v d c) src dst s)

/-- ADDC3 (R268). -/
def execAddc3 (src1 src2 : Src3) (dst : Reg) (s : State) : Host.Outcome State Fault Refusal :=
  toOutcome (int3 .arithInt addWords src1 src2 dst s)

/-- ADDF (R269). -/
def execAddf (src : FSrc) (dst : Rn) (s : State) : Host.Outcome State Fault Refusal :=
  toOutcome (fltOp .arithFlt (fun d v => fadd v d) src dst s)

/-- ADDF3 (R270). -/
def execAddf3 (src1 src2 : FSrc3) (dst : Rn) (s : State) : Host.Outcome State Fault Refusal :=
  toOutcome (flt3 .arithFlt fadd src1 src2 dst s)

/-- ADDI (R271). -/
def execAddi (src : Src) (dst : Reg) (s : State) : Host.Outcome State Fault Refusal :=
  toOutcome (intOp .arithInt .signed (fun d v _ => addWords v d false) src dst s)

/-- ADDI3 (R272). -/
def execAddi3 (src1 src2 : Src3) (dst : Reg) (s : State) : Host.Outcome State Fault Refusal :=
  toOutcome (int3 .arithInt (fun a b _ => addWords a b false) src1 src2 dst s)

/-! ## Comparison -/

/-- CMPF (R273): the flags of Rn − src. -/
def execCmpf (src : FSrc) (dst : Rn) (s : State) : Host.Outcome State Fault Refusal := toOutcome do
  let (v, s1) ← srcFlt src s
  .ok (sequential (putFlags .cmpFlt (fsub (s.rn dst) v).flags s1))

/-- CMPF3 (R274): the flags of src1 − src2. -/
def execCmpf3 (src1 src2 : FSrc3) (s : State) : Host.Outcome State Fault Refusal := toOutcome do
  let (a, b, s1) ← both3Flt src1 src2 s
  .ok (sequential (putFlags .cmpFlt (fsub a b).flags s1))

/-- CMPI (R275): the flags of Dreg − src, whatever register Dreg is. -/
def execCmpi (src : Src) (dst : Reg) (s : State) : Host.Outcome State Fault Refusal :=
  toOutcome (intTest .cmpInt .signed (fun d v => subWords d v false) src dst s)

/-- CMPI3 (R276): the flags of src1 − src2. -/
def execCmpi3 (src1 src2 : Src3) (s : State) : Host.Outcome State Fault Refusal :=
  toOutcome (intTest3 .cmpInt (fun a b => subWords a b false) src1 src2 s)

/-! ## Multiplication -/

/-- MPYF (R277). -/
def execMpyf (src : FSrc) (dst : Rn) (s : State) : Host.Outcome State Fault Refusal :=
  toOutcome (fltOp .arithFlt (fun d v => fmul v d) src dst s)

/-- MPYF3 (R278). -/
def execMpyf3 (src1 src2 : FSrc3) (dst : Rn) (s : State) : Host.Outcome State Fault Refusal :=
  toOutcome (flt3 .arithFlt fmul src1 src2 dst s)

/-- MPYI (R279). -/
def execMpyi (src : Src) (dst : Reg) (s : State) : Host.Outcome State Fault Refusal := toOutcome do
  guardDest (srcClobbers src dst)
  let d ← readInt dst s
  let (v, s1) ← srcInt .signed src s
  let (r, s2) := mulWords v d s1
  let s3 ← putInt .mulInt dst r s2
  .ok (sequential s3)

/-- MPYI3 (R280). -/
def execMpyi3 (src1 src2 : Src3) (dst : Reg) (s : State) : Host.Outcome State Fault Refusal := toOutcome do
  guardDest (src3Clobbers src1 dst || src3Clobbers src2 dst)
  let (a, b, s1) ← both3Int src1 src2 s
  let (r, s2) := mulWords a b s1
  let s3 ← putInt .mulInt dst r s2
  .ok (sequential s3)

/-! ## Subtraction -/

/-- SUBB (R290): Dreg − src − C. -/
def execSubb (src : Src) (dst : Reg) (s : State) : Host.Outcome State Fault Refusal :=
  toOutcome (intOp .arithInt .signed subWords src dst s)

/-- SUBB3 (R291): src1 − src2 − C. -/
def execSubb3 (src1 src2 : Src3) (dst : Reg) (s : State) : Host.Outcome State Fault Refusal :=
  toOutcome (int3 .arithInt subWords src1 src2 dst s)

/-- One step of an unsigned division (R296, D18). -/
def divisionStep (d v : Word) : Word :=
  if v.toNat ≤ d.toNat then BitVec.ofNat 32 ((d.toNat - v.toNat) * 2 + 1) else BitVec.ofNat 32 (d.toNat * 2)

/-- SUBC (R296): no flag is written. -/
def execSubc (src : Src) (dst : Reg) (s : State) : Host.Outcome State Fault Refusal := toOutcome do
  guardDest (srcClobbers src dst)
  let d ← readInt dst s
  let (v, s1) ← srcInt .signed src s
  let s2 ← writeInt dst (divisionStep d v) s1
  .ok (sequential s2)

/-- SUBF (R297): Rn − src. -/
def execSubf (src : FSrc) (dst : Rn) (s : State) : Host.Outcome State Fault Refusal :=
  toOutcome (fltOp .arithFlt fsub src dst s)

/-- SUBF3 (R298): src1 − src2. -/
def execSubf3 (src1 src2 : FSrc3) (dst : Rn) (s : State) : Host.Outcome State Fault Refusal :=
  toOutcome (flt3 .arithFlt fsub src1 src2 dst s)

/-- SUBI (R299): Dreg − src. -/
def execSubi (src : Src) (dst : Reg) (s : State) : Host.Outcome State Fault Refusal :=
  toOutcome (intOp .arithInt .signed (fun d v _ => subWords d v false) src dst s)

/-- SUBI3 (R300): src1 − src2. -/
def execSubi3 (src1 src2 : Src3) (dst : Reg) (s : State) : Host.Outcome State Fault Refusal :=
  toOutcome (int3 .arithInt (fun a b _ => subWords a b false) src1 src2 dst s)

/-- SUBRB (R301): src − Dreg − C. -/
def execSubrb (src : Src) (dst : Reg) (s : State) : Host.Outcome State Fault Refusal :=
  toOutcome (intOp .arithInt .signed (fun d v c => subWords v d c) src dst s)

/-- SUBRF (R302): src − Rn. -/
def execSubrf (src : FSrc) (dst : Rn) (s : State) : Host.Outcome State Fault Refusal :=
  toOutcome (fltOp .arithFlt (fun d v => fsub v d) src dst s)

/-- SUBRI (R303): src − Dreg. -/
def execSubri (src : Src) (dst : Reg) (s : State) : Host.Outcome State Fault Refusal :=
  toOutcome (intOp .arithInt .signed (fun d v _ => subWords v d false) src dst s)

end Sys2Proof.Machine
end

