-- ==== Sys2Proof/Machine/Control.lean ====
section
/-! DEFINITION. Branches, calls, returns, traps, repeats, waiting and low power (spec/46_program_control.md). -/

namespace Sys2Proof.Machine

/-! ## Branches -/

/-- Bcond (R360). -/
def execBcond (c : Cond) (csrc : Csrc) (s : State) : Host.Outcome State Fault Refusal := toOutcome do
  guardControl s
  let t ← target s.params.branchBase.bcond csrc s
  .ok (if condTrue c s.st then jump t s else sequential s)

/-- BcondD (R361). -/
def execBcondD (c : Cond) (csrc : Csrc) (s : State) : Host.Outcome State Fault Refusal := toOutcome do
  guardControl s
  let t ← target s.params.branchBase.bcondD csrc s
  .ok (if condTrue c s.st then delayedJump t s else sequential s)

/-- BR (R362). -/
def execBr (addr : Addr) (s : State) : Host.Outcome State Fault Refusal := toOutcome do
  guardControl s
  .ok (jump addr s)

/-- BRD (R363). -/
def execBrd (addr : Addr) (s : State) : Host.Outcome State Fault Refusal := toOutcome do
  guardControl s
  .ok (delayedJump addr s)

/-- ARn − 1 over the low W bits (R366). -/
def decremented (w : ArauWidth) (a : Word) : Word := arauWrite w a (a - 1)

/-- `sint_W(new) ≥ 0` (R366). -/
def notNegative (w : ArauWidth) (a : Word) : Bool :=
  match w with
  | .w32 => !a.msb
  | .w24 => !a.getLsbD 23

/-- DBcond (R366): ARn is decremented whatever the condition is; the target is that of the old ARn. -/
def execDbcond (c : Cond) (ar : ARn) (csrc : Csrc) (s : State) : Host.Outcome State Fault Refusal := toOutcome do
  guardControl s
  let t ← target s.params.branchBase.dbcond csrc s
  let a := decremented s.params.arauWidth (s.arn ar)
  let s1 := s.setAr ar a
  .ok (if condTrue c s.st && notNegative s.params.arauWidth a then jump t s1 else sequential s1)

/-- DBcondD (R367). -/
def execDbcondD (c : Cond) (ar : ARn) (csrc : Csrc) (s : State) : Host.Outcome State Fault Refusal := toOutcome do
  guardControl s
  let t ← target s.params.branchBase.dbcondD csrc s
  let a := decremented s.params.arauWidth (s.arn ar)
  let s1 := s.setAr ar a
  .ok (if condTrue c s.st && notNegative s.params.arauWidth a then delayedJump t s1 else sequential s1)

/-! ## Calls and returns -/

/-- CALL (R364). -/
def execCall (addr : Addr) (s : State) : Host.Outcome State Fault Refusal := toOutcome do
  guardControl s
  let s1 ← push (zext32 (s.pc + 1)) s
  .ok (jump addr s1)

/-- CALLcond (R365): the target is read before SP changes. -/
def execCallcond (c : Cond) (csrc : Csrc) (s : State) : Host.Outcome State Fault Refusal := toOutcome do
  guardControl s
  let t ← target s.params.branchBase.callcond csrc s
  if condTrue c s.st then do
    let s1 ← push (zext32 (s.pc + 1)) s
    .ok (jump t s1)
  else .ok (sequential s)

/-- RETScond (R369). -/
def execRetscond (c : Cond) (s : State) : Host.Outcome State Fault Refusal := toOutcome do
  guardControl s
  if condTrue c s.st then returnTo s else .ok (sequential s)

/-- RETIcond (R368). -/
def execReticond (c : Cond) (s : State) : Host.Outcome State Fault Refusal := toOutcome do
  guardControl s
  if condTrue c s.st then returnFrom s else .ok (sequential s)

/-- TRAPcond (R380): taken whatever GIE is; a number without a vector is refused whatever the condition is (U32). -/
def execTrapcond (c : Cond) (n : Fin 32) (s : State) : Host.Outcome State Fault Refusal := toOutcome do
  guardControl s
  need (s.hasTrap n.val) .trapNumber
  if condTrue c s.st then do
    let (t, s1) ← trapVector n.val s
    enter (s.pc + 1) t s1
  else .ok (sequential s)

/-- SWI: "refuse(\"SWI: the source gives no operation and forbids its use\")" (R382). -/
def execSwi (_ : State) : Host.Outcome State Fault Refusal := toOutcome (refuse .softwareInterrupt)

/-! ## Repeats -/

/-- An RPTB or RPTS inside the block that is being repeated (R378; log 34). -/
def State.insideBlock (s : State) : Bool :=
  s.st.rm && decide ((low24 s.rs).toNat ≤ s.pc.toNat) && decide (s.pc.toNat ≤ (low24 s.re).toNat)

/-- RPTB (R375, R378). -/
def execRptb (addr : Addr) (s : State) : Host.Outcome State Fault Refusal := toOutcome do
  guardControl s
  need (!s.insideBlock) .nestedRepeat
  need (!s.rc.msb) .repeatCount
  need (decide ((s.pc + 1).toNat ≤ addr.toNat)) .emptyRepeatBlock
  .ok { s with re := zext32 addr, st := { s.st with rm := true }, rs := zext32 (s.pc + 1), pc := s.pc + 1 }

/-- The count of RPTS is unambiguous: below 2^31, and an immediate below 8000h (R377, R378). -/
def countAllowed (src : Src) (count : Word) : Bool :=
  match src with
  | .imm k => !k.msb
  | .reg _ | .mem _ => !count.msb

/-- RPTS (R377, R378). -/
def execRpts (src : Src) (s : State) : Host.Outcome State Fault Refusal := toOutcome do
  guardControl s
  need (!s.insideBlock) .nestedRepeat
  let (v, s1) ← srcInt .unsigned src s
  need (countAllowed src v) .repeatCount
  .ok { s1 with rc := v, st := { s1.st with rm := true }, rs := zext32 (s.pc + 1), re := zext32 (s.pc + 1),
                pc := s.pc + 1, rpts := .armed }

/-! ## IACK, NOP, waiting and low power -/

/-- IACK (R370): the value read is discarded. -/
def execIack (src : MemOp) (s : State) : Host.Outcome State Fault Refusal := toOutcome do
  let (a, s1) ← ea src s
  let (_, s2) ← memRead a (s1.driveIack false)
  .ok (sequential (s2.driveIack true))

/-- NOP (R372): only the update of ARn, if an operand is given. -/
def execNop (src : Option Indirect) (s : State) : Host.Outcome State Fault Refusal :=
  toOutcome (match src with
    | none => .ok (sequential s)
    | some i => do
      let (_, s1) ← indirect i s
      .ok (sequential s1))

/-- The program counter is advanced and the CPU waits for an interrupt (R371), which returns to `pc + 1` (R475). The
instruction has not completed, so nothing else changes until then (R13; log 37). -/
def waitForInterrupt (w : Waiting) (s : State) : Res State := do
  guardControl s
  need s.st.gie .idleWithoutGie
  .ok { s with pc := s.pc + 1, waiting := some w }

/-- IDLE (R371). -/
def execIdle (s : State) : Host.Outcome State Fault Refusal := toOutcome (waitForInterrupt .idle s)

/-- IDLE2 (R384): as IDLE; that the clock stops shows in no state (log 44). -/
def execIdle2 (s : State) : Host.Outcome State Fault Refusal := toOutcome do
  need s.params.lc31LowPower .lowPowerAbsent
  waitForInterrupt .idle2 s

/-- LOPOWER (R385). -/
def execLopower (s : State) : Host.Outcome State Fault Refusal := toOutcome do
  need s.params.lc31LowPower .lowPowerAbsent
  guardRepeated s
  .ok (sequential { s with clock := .dividedBy16 })

/-- MAXSPEED (R386). -/
def execMaxspeed (s : State) : Host.Outcome State Fault Refusal := toOutcome do
  need s.params.lc31LowPower .lowPowerAbsent
  guardRepeated s
  .ok (sequential { s with clock := .normal })

end Sys2Proof.Machine
end

