-- ==== Sys2Proof/Machine/Convert.lean ====
section
/-! DEFINITION. Conversions between integers and floats, NORM and RND (spec/45_conversion.md). -/

namespace Sys2Proof.Machine

/-- FIX (R341). -/
def execFix (src : FSrc) (dst : Reg) (s : State) : Host.Outcome State Fault Refusal := toOutcome do
  guardDest (fsrcClobbers src dst)
  let (v, s1) ← srcFlt src s
  let s2 ← putInt .fix dst (fixResult v) s1
  .ok (sequential s2)

/-- FLOAT (R342). -/
def execFloat (src : Src) (dst : Rn) (s : State) : Host.Outcome State Fault Refusal := toOutcome do
  let (v, s1) ← srcInt .signed src s
  .ok (sequential (putFlt .arithFlt dst ⟨ffloat v, false, false⟩ s1))

/-- NORM (R343). -/
def execNorm (src : FSrc) (dst : Rn) (s : State) : Host.Outcome State Fault Refusal :=
  toOutcome (fltUnary .arithFlt fnorm src dst s)

/-- RND (R344). -/
def execRnd (src : FSrc) (dst : Rn) (s : State) : Host.Outcome State Fault Refusal :=
  toOutcome (fltUnary .arithFlt frnd src dst s)

end Sys2Proof.Machine
end

