-- ==== Sys2Proof/Machine/Interlocked.lean ====
section
/-! DEFINITION. The interlocked instructions and the waits (spec/47_interlocked.md, R13, R371, R474). A wait
is a state: `waiting` holds what the instruction still has to do, and each step calls `resume` (log 35). -/

namespace Sys2Proof.Machine

/-! ## The bus -/

/-- `bus(a)` (R402). -/
def onBus (a : Addr) (s : State) : Bool :=
  match s.kindAt a with
  | .externalStrb | .externalMstrb | .externalIostrb | .peripheral => true
  | .internalRam | .unmapped => false

/-- `ready(a)` (R401): RDYint with STRB, XRDYint with MSTRB or IOSTRB, always active for a peripheral. -/
def ready (a : Addr) (s : State) : Bool :=
  match s.kindAt a with
  | .externalStrb => s.rdyInt
  | .externalMstrb | .externalIostrb => s.xrdyInt
  | .peripheral | .internalRam | .unmapped => true

/-- The word is on the bus and XF1 is 0 (R403). -/
def acknowledged (a : Addr) (s : State) : Bool := ready a s && !s.xf1

/-! ## Completing an access -/

/-- The load of LDFI (R403). -/
def finishLdfi (a : Addr) (dst : Rn) (s : State) : Res State := do
  let (w, s1) ← memRead a s
  .ok (putLoadFlt dst (widen w) s1)

/-- The load of LDII (R404). -/
def finishLdii (a : Addr) (dst : Reg) (s : State) : Res State := do
  let (w, s1) ← memRead a s
  putInt .loadInt dst (plainResult w) s1

/-! ## The instructions -/

/-- LDFI (R403). -/
def execLdfi (src : MemOp) (dst : Rn) (s : State) : Host.Outcome State Fault Refusal := toOutcome do
  let (a, s1) ← ea src s
  if onBus a s then
    if acknowledged a s then do
      let s2 ← finishLdfi a dst (s1.driveXf0 false).acquire
      .ok (sequential s2)
    else .ok { s1.driveXf0 false with waiting := some (.ldfi a dst) }
  else do
    let s2 ← finishLdfi a dst s1
    .ok (sequential s2)

/-- LDII (R404). -/
def execLdii (src : MemOp) (dst : Reg) (s : State) : Host.Outcome State Fault Refusal := toOutcome do
  guardDest (memClobbers src dst)
  need (namedReg dst) .unnamedRegister
  let (a, s1) ← ea src s
  if onBus a s then
    if acknowledged a s then do
      let s2 ← finishLdii a dst (s1.driveXf0 false).acquire
      .ok (sequential s2)
    else .ok { s1.driveXf0 false with waiting := some (.ldii a dst) }
  else do
    let s2 ← finishLdii a dst s1
    .ok (sequential s2)

/-- An interlocked store of a word (R407, R408): XF0 is raised, and only ready is waited for (C6). Like the
interlocked loads it may stand in a delay slot (log 13). -/
def storeInterlocked (v : Word) (daddr : MemOp) (s : State) : Res State := do
  let (a, s1) ← ea daddr s
  if onBus a s then
    if ready a s then do
      let s2 ← memWrite a v (s1.driveXf0 true)
      .ok (sequential s2)
    else .ok { s1.driveXf0 true with waiting := some (.store a v) }
  else do
    let s2 ← memWrite a v s1
    .ok (sequential s2)

/-- STFI (R407). -/
def execStfi (src : Rn) (daddr : MemOp) (s : State) : Host.Outcome State Fault Refusal :=
  toOutcome (storeInterlocked (narrow (s.rn src)) daddr s)

/-- STII (R408). -/
def execStii (src : Reg) (daddr : MemOp) (s : State) : Host.Outcome State Fault Refusal := toOutcome do
  let v ← readInt src s
  storeInterlocked v daddr s

/-- SIGI after XF0 ← 0: it ends when XF1 is 0, and is refused when it would wait while an interrupt can be
taken (R409, D41). -/
def awaitSigi (s : State) : Res State :=
  if s.xf1 then
    match s.takeable with
    | some _ => refuse .sigiInterrupted
    | none => .ok { s with waiting := some .sigi }
  else .ok (sequential { s.driveXf0 true with waiting := none })

/-- SIGI (R409). -/
def execSigi (s : State) : Host.Outcome State Fault Refusal := toOutcome do
  guardControl s
  awaitSigi (s.driveXf0 false)

/-! ## Going on with a wait -/

/-- An interrupt that can be taken, when the free bit of R474 says that it is taken now (log 10), and the state with
that bit used up. -/
def decideInterrupt (p : Option (Nat × VectorRef)) (s : State) : Option (Nat × VectorRef) × State :=
  match p with
  | none => (none, s)
  | some x => if Config.freeBit s.draws then (some x, s.tick) else (none, s.tick)

/-- A waiting LDFI or LDII: it ends at the acknowledge, and the program then holds the interlock, or, once the access is
ready, without it, by an interrupt that returns to the instruction after it (R403, R404, R406; at RE, log 37). -/
def resumeLoad (a : Addr) (finish : State → Res State) (s : State) : Res State :=
  if ready a s then
    if s.xf1 then
      match decideInterrupt s.loadExit s with
      | (none, s1) => .ok s1
      | (some (i, v), s1) => do
        let s2 ← finish { s1 with waiting := none }
        enterInterrupt i v (s.pc + 1) { sequential s2 with rpts := .off }
    else do
      let s1 ← finish { s with waiting := none }.acquire
      .ok (sequential s1)
  else .ok s

/-- A waiting IDLE or IDLE2: only an interrupt ends it (R371, R384, R474). Its `pc` has been advanced; the instruction,
which stands before it, completes now, and only now does the repeat mechanism act (R13, R376; log 37). -/
def resumeIdle (s : State) : Res State :=
  match decideInterrupt s.takeable s with
  | (none, s1) => .ok s1
  | (some (i, v), s1) => enterInterrupt i v s.pc (sequential { s1 with pc := s.pc - 1, waiting := none })

/-- One step of an instruction that waits (R13). -/
def resume (w : Waiting) (s : State) : Res State :=
  match w with
  | .ldfi a dst => resumeLoad a (finishLdfi a dst) s
  | .ldii a dst => resumeLoad a (finishLdii a dst) s
  | .store a v =>
    if ready a s then do
      let s1 ← memWrite a v { s with waiting := none }
      .ok (sequential s1)
    else .ok s
  | .sigi => awaitSigi s
  | .idle => resumeIdle s
  | .idle2 => resumeIdle s

end Sys2Proof.Machine
end

