-- ==== Sys2Proof/Machine/LoadStore.lean ====
section
/-! DEFINITION. Loads, stores and the stack (spec/42_load_store.md). -/

namespace Sys2Proof.Machine

/-! ## Loads -/

/-- LDE (R231): the exponent field only. -/
def execLde (src : FSrc) (dst : Rn) (s : State) : Host.Outcome State Fault Refusal := toOutcome do
  let (v, s1) ← srcFlt src s
  .ok (sequential (s1.setR dst (v.extractLsb' 32 8 ++ (s.rn dst).extractLsb' 0 32)))

/-- LDF (R232). -/
def execLdf (src : FSrc) (dst : Rn) (s : State) : Host.Outcome State Fault Refusal := toOutcome do
  let (v, s1) ← srcFlt src s
  .ok (sequential (putLoadFlt dst v s1))

/-- LDFcond (R233): the operand is evaluated whatever the condition is. -/
def execLdfcond (c : Cond) (src : FSrc) (dst : Rn) (s : State) : Host.Outcome State Fault Refusal := toOutcome do
  let (v, s1) ← srcFlt src s
  .ok (sequential (if condTrue c s.st then s1.setR dst v else s1))

/-- LDI (R234). -/
def execLdi (src : Src) (dst : Reg) (s : State) : Host.Outcome State Fault Refusal :=
  toOutcome (intUnary .loadInt .signed (fun v _ => plainResult v) src dst s)

/-- LDIcond (R235): the operand is evaluated whatever the condition is, and no flag is written. -/
def execLdicond (c : Cond) (src : Src) (dst : Reg) (s : State) : Host.Outcome State Fault Refusal := toOutcome do
  guardDest (srcClobbers src dst)
  need (namedReg dst) .unnamedRegister
  let (v, s1) ← srcInt .signed src s
  let s2 ← if condTrue c s.st then writeInt dst v s1 else .ok s1
  .ok (sequential s2)

/-- The 32 bits LDM loads (R237): for a short immediate with exponent −8 they are a free choice between
mantissa 0 and the immediate's own sign and fraction (log 23). -/
def ldmMantissa (src : FSrc) (v : Ext) (s : State) : Word × State :=
  match src with
  | .imm k =>
    if k.extractLsb' 12 4 = 8#4 then
      let (b, s1) := drawBit s
      (if b then k.extractLsb' 0 12 ++ 0#20 else 0#32, s1)
    else (mantField v, s)
  | .reg _ | .mem _ => (mantField v, s)

/-- LDM (R237). -/
def execLdm (src : FSrc) (dst : Rn) (s : State) : Host.Outcome State Fault Refusal := toOutcome do
  let (v, s1) ← srcFlt src s
  let (m, s2) := ldmMantissa src v s1
  .ok (sequential (s2.setR dst ((s.rn dst).extractLsb' 32 8 ++ m)))

/-- LDP (R238). -/
def execLdp (page : BitVec 8) (s : State) : Host.Outcome State Fault Refusal :=
  toOutcome (.ok (sequential { s with dp := page.setWidth 32 }))

/-! ## Stores -/

/-- STF (R243). -/
def execStf (src : Rn) (daddr : MemOp) (s : State) : Host.Outcome State Fault Refusal :=
  toOutcome (storeAt (narrow (s.rn src)) daddr s)

/-- STI (R244): the value is the register's before any update of ARn. -/
def execSti (src : Reg) (daddr : MemOp) (s : State) : Host.Outcome State Fault Refusal := toOutcome do
  let v ← readInt src s
  storeAt v daddr s

/-! ## The stack -/

/-- POP (R239): of POP SP the popped value stays (D31). -/
def execPop (dst : Reg) (s : State) : Host.Outcome State Fault Refusal := toOutcome do
  let (v, s1) ← pop s
  let s2 ← putInt .loadInt dst (plainResult v) s1
  .ok (sequential s2)

/-- POPF (R240). -/
def execPopf (dst : Rn) (s : State) : Host.Outcome State Fault Refusal := toOutcome do
  let (v, s1) ← pop s
  .ok (sequential (putLoadFlt dst (widen v) s1))

/-- PUSH (R241): PUSH SP stores the old SP (D31). -/
def execPush (src : Reg) (s : State) : Host.Outcome State Fault Refusal := toOutcome do
  let v ← readInt src s
  let s1 ← push v s
  .ok (sequential s1)

/-- PUSHF (R242). -/
def execPushf (src : Rn) (s : State) : Host.Outcome State Fault Refusal := toOutcome do
  let s1 ← push (narrow (s.rn src)) s
  .ok (sequential s1)

end Sys2Proof.Machine
end

