-- ==== Sys2Proof/Machine/Logic.lean ====
section
/-! DEFINITION. Logic, bit tests, rotates and shifts (spec/44_logic.md). -/

namespace Sys2Proof.Machine

/-! ## AND, OR, XOR, NOT -/

/-- AND (R311). -/
def execAnd (src : Src) (dst : Reg) (s : State) : Host.Outcome State Fault Refusal :=
  toOutcome (intOp .logic .unsigned (fun d v _ => plainResult (d &&& v)) src dst s)

/-- AND3 (R313). -/
def execAnd3 (src1 src2 : Src3) (dst : Reg) (s : State) : Host.Outcome State Fault Refusal :=
  toOutcome (int3 .logic (fun a b _ => plainResult (a &&& b)) src1 src2 dst s)

/-- ANDN (R318): src is complemented (log 48). -/
def execAndn (src : Src) (dst : Reg) (s : State) : Host.Outcome State Fault Refusal :=
  toOutcome (intOp .logic .unsigned (fun d v _ => plainResult (d &&& ~~~v)) src dst s)

/-- ANDN3 (R319): src2 is complemented (log 48). -/
def execAndn3 (src1 src2 : Src3) (dst : Reg) (s : State) : Host.Outcome State Fault Refusal :=
  toOutcome (int3 .logic (fun a b _ => plainResult (a &&& ~~~b)) src1 src2 dst s)

/-- NOT (R312). -/
def execNot (src : Src) (dst : Reg) (s : State) : Host.Outcome State Fault Refusal :=
  toOutcome (intUnary .logic .unsigned (fun v _ => plainResult (~~~v)) src dst s)

/-- OR (R314). -/
def execOr (src : Src) (dst : Reg) (s : State) : Host.Outcome State Fault Refusal :=
  toOutcome (intOp .logic .unsigned (fun d v _ => plainResult (d ||| v)) src dst s)

/-- OR3 (R315). -/
def execOr3 (src1 src2 : Src3) (dst : Reg) (s : State) : Host.Outcome State Fault Refusal :=
  toOutcome (int3 .logic (fun a b _ => plainResult (a ||| b)) src1 src2 dst s)

/-- XOR (R316). -/
def execXor (src : Src) (dst : Reg) (s : State) : Host.Outcome State Fault Refusal :=
  toOutcome (intOp .logic .unsigned (fun d v _ => plainResult (d ^^^ v)) src dst s)

/-- XOR3 (R317). -/
def execXor3 (src1 src2 : Src3) (dst : Reg) (s : State) : Host.Outcome State Fault Refusal :=
  toOutcome (int3 .logic (fun a b _ => plainResult (a ^^^ b)) src1 src2 dst s)

/-! ## Bit test -/

/-- TSTB (R320): the flags of Dreg AND src, whatever register Dreg is. -/
def execTstb (src : Src) (dst : Reg) (s : State) : Host.Outcome State Fault Refusal :=
  toOutcome (intTest .test .unsigned (fun d v => plainResult (d &&& v)) src dst s)

/-- TSTB3 (R321). -/
def execTstb3 (src1 src2 : Src3) (s : State) : Host.Outcome State Fault Refusal :=
  toOutcome (intTest3 .test (fun a b => plainResult (a &&& b)) src1 src2 s)

/-! ## Rotates -/

/-- ROL (R322). -/
def execRol (dst : Reg) (s : State) : Host.Outcome State Fault Refusal :=
  toOutcome (rotate (fun v _ => ⟨v.extractLsb' 0 31 ++ v.extractLsb' 31 1, some (v.getLsbD 31), false⟩) dst s)

/-- ROLC (R323). -/
def execRolc (dst : Reg) (s : State) : Host.Outcome State Fault Refusal :=
  toOutcome (rotate (fun v c => ⟨v.extractLsb' 0 31 ++ BitVec.ofBool c, some (v.getLsbD 31), false⟩) dst s)

/-- ROR (R324). -/
def execRor (dst : Reg) (s : State) : Host.Outcome State Fault Refusal :=
  toOutcome (rotate (fun v _ => ⟨v.extractLsb' 0 1 ++ v.extractLsb' 1 31, some (v.getLsbD 0), false⟩) dst s)

/-- RORC (R325). -/
def execRorc (dst : Reg) (s : State) : Host.Outcome State Fault Refusal :=
  toOutcome (rotate (fun v c => ⟨BitVec.ofBool c ++ v.extractLsb' 1 31, some (v.getLsbD 0), false⟩) dst s)

/-! ## Shifts -/

/-- ASH (R326). -/
def execAsh (count : Src) (dst : Reg) (s : State) : Host.Outcome State Fault Refusal :=
  toOutcome (intOp .shift .signed (fun d v _ => shiftArith s.params.shiftBits d v) count dst s)

/-- ASH3 (R327). -/
def execAsh3 (src count : Src3) (dst : Reg) (s : State) : Host.Outcome State Fault Refusal :=
  toOutcome (int3 .shift (fun a b _ => shiftArith s.params.shiftBits a b) src count dst s)

/-- LSH (R328). -/
def execLsh (count : Src) (dst : Reg) (s : State) : Host.Outcome State Fault Refusal :=
  toOutcome (intOp .shift .signed (fun d v _ => shiftLogical s.params.shiftBits d v) count dst s)

/-- LSH3 (R329). -/
def execLsh3 (src count : Src3) (dst : Reg) (s : State) : Host.Outcome State Fault Refusal :=
  toOutcome (int3 .shift (fun a b _ => shiftLogical s.params.shiftBits a b) src count dst s)

end Sys2Proof.Machine
end

