-- ==== Sys2Proof/Machine/Parallel.lean ====
section
/-! DEFINITION. The parallel instructions (spec/48_parallel.md). All reads come before all writes (R424). -/

namespace Sys2Proof.Machine

/-! ## An operation with a store (R423) -/

/-- The first half: the operands' addresses and updates, the word loaded, and the address of the store. Before the
store other agents may act (R69). -/
def pairStart (src2 dst2 : Indirect) (s : State) : Res (Word × Addr × State) := do
  guardPair src2 dst2
  let (a2, s1) ← indirect dst2 s
  let (v2, s2) ← loadInd src2 s1
  .ok (v2, a2, agentsAct s2)

/-- `X src2,dst1 || STI src3,dst2` with an integer X. -/
def oneSti (k : FlagClass) (f : Word → IntResult) (p : OneStore) (s : State) : Res State := do
  let (v2, a2, s1) ← pairStart p.src2 p.dst2 s
  let s2 ← putInt k (.r p.dst1) (f v2) s1
  let s3 ← memWrite a2 (intView (s.rn p.src3)) s2
  .ok (sequential s3)

/-- `X src2,dst1 || STF src3,dst2` with a float result; `f` takes the word loaded. -/
def oneStf (f : Word → FltResult) (p : OneStore) (s : State) : Res State := do
  let (v2, a2, s1) ← pairStart p.src2 p.dst2 s
  let s2 ← memWrite a2 (narrow (s.rn p.src3)) (putFlt .arithFlt p.dst1 (f v2) s1)
  .ok (sequential s2)

/-- `X3 src1,src2,dst1 || STI src3,dst2` with an integer X3 of src1 and src2. -/
def twoSti (k : FlagClass) (f : Word → Word → IntResult) (p : TwoStore) (s : State) : Res State := do
  let (v2, a2, s1) ← pairStart p.src2 p.dst2 s
  let s2 ← putInt k (.r p.dst1) (f (intView (s.rn p.src1)) v2) s1
  let s3 ← memWrite a2 (intView (s.rn p.src3)) s2
  .ok (sequential s3)

/-- `X3 src1,src2,dst1 || STF src3,dst2` with a float X3 of src1 and src2. -/
def twoStf (f : Ext → Ext → FltResult) (p : TwoStore) (s : State) : Res State := do
  let (v2, a2, s1) ← pairStart p.src2 p.dst2 s
  let s2 ← memWrite a2 (narrow (s.rn p.src3)) (putFlt .arithFlt p.dst1 (f (s.rn p.src1) (widen v2)) s1)
  .ok (sequential s2)

/-- The order of a parallel subtraction (R455 `ParallelSubOrder`; log 26). -/
def subOrder {α β : Type} (o : SubOrder) (f : α → α → β) (a b : α) : β :=
  match o with
  | .source => f a b
  | .vendor => f b a

/-- ABSF||STF (R430). -/
def execAbsfStf (p : OneStore) (s : State) : Host.Outcome State Fault Refusal :=
  toOutcome (oneStf (fun w => fabs (widen w)) p s)

/-- ABSI||STI (R431). -/
def execAbsiSti (p : OneStore) (s : State) : Host.Outcome State Fault Refusal := toOutcome (oneSti .absInt absWord p s)

/-- ADDF3||STF (R432). -/
def execAddf3Stf (p : TwoStore) (s : State) : Host.Outcome State Fault Refusal := toOutcome (twoStf fadd p s)

/-- ADDI3||STI (R433). -/
def execAddi3Sti (p : TwoStore) (s : State) : Host.Outcome State Fault Refusal :=
  toOutcome (twoSti .arithInt (fun a b => addWords a b false) p s)

/-- AND3||STI (R434). -/
def execAnd3Sti (p : TwoStore) (s : State) : Host.Outcome State Fault Refusal :=
  toOutcome (twoSti .logic (fun a b => plainResult (a &&& b)) p s)

/-- ASH3||STI (R435): src1 is the count, src2 the value shifted. -/
def execAsh3Sti (p : TwoStore) (s : State) : Host.Outcome State Fault Refusal :=
  toOutcome (twoSti .shift (fun a b => shiftArith s.params.shiftBits b a) p s)

/-- FIX||STI (R436). -/
def execFixSti (p : OneStore) (s : State) : Host.Outcome State Fault Refusal :=
  toOutcome (oneSti .fix (fun w => fixResult (widen w)) p s)

/-- FLOAT||STF (R437). -/
def execFloatStf (p : OneStore) (s : State) : Host.Outcome State Fault Refusal :=
  toOutcome (oneStf (fun w => ⟨ffloat w, false, false⟩) p s)

/-- LDF||STF (R439): no flag is written. -/
def execLdfStf (p : OneStore) (s : State) : Host.Outcome State Fault Refusal := toOutcome do
  let (v2, a2, s1) ← pairStart p.src2 p.dst2 s
  let s2 ← memWrite a2 (narrow (s.rn p.src3)) (s1.setR p.dst1 (widen v2))
  .ok (sequential s2)

/-- LDI||STI (R441): no flag is written. -/
def execLdiSti (p : OneStore) (s : State) : Host.Outcome State Fault Refusal := toOutcome do
  let (v2, a2, s1) ← pairStart p.src2 p.dst2 s
  let s2 ← writeInt (.r p.dst1) v2 s1
  let s3 ← memWrite a2 (intView (s.rn p.src3)) s2
  .ok (sequential s3)

/-- LSH3||STI (R442): src1 is the count, src2 the value shifted. -/
def execLsh3Sti (p : TwoStore) (s : State) : Host.Outcome State Fault Refusal :=
  toOutcome (twoSti .shift (fun a b => shiftLogical s.params.shiftBits b a) p s)

/-- MPYF3||STF (R444). -/
def execMpyf3Stf (p : TwoStore) (s : State) : Host.Outcome State Fault Refusal := toOutcome (twoStf fmul p s)

/-- MPYI3||STI (R447). -/
def execMpyi3Sti (p : TwoStore) (s : State) : Host.Outcome State Fault Refusal := toOutcome do
  let (v2, a2, s1) ← pairStart p.src2 p.dst2 s
  let (r, s2) := mulWords (intView (s.rn p.src1)) v2 s1
  let s3 ← putInt .mulInt (.r p.dst1) r s2
  let s4 ← memWrite a2 (intView (s.rn p.src3)) s3
  .ok (sequential s4)

/-- NEGF||STF (R449). -/
def execNegfStf (p : OneStore) (s : State) : Host.Outcome State Fault Refusal :=
  toOutcome (oneStf (fun w => fneg (widen w)) p s)

/-- NEGI||STI (R450). -/
def execNegiSti (p : OneStore) (s : State) : Host.Outcome State Fault Refusal :=
  toOutcome (oneSti .arithInt (fun w => subWords 0 w false) p s)

/-- NOT||STI (R451). -/
def execNotSti (p : OneStore) (s : State) : Host.Outcome State Fault Refusal :=
  toOutcome (oneSti .logic (fun w => plainResult (~~~w)) p s)

/-- OR3||STI (R452). -/
def execOr3Sti (p : TwoStore) (s : State) : Host.Outcome State Fault Refusal :=
  toOutcome (twoSti .logic (fun a b => plainResult (a ||| b)) p s)

/-- SUBF3||STF (R455). -/
def execSubf3Stf (p : TwoStore) (s : State) : Host.Outcome State Fault Refusal :=
  toOutcome (twoStf (subOrder s.params.parallelSubOrder fsub) p s)

/-- SUBI3||STI (R456). -/
def execSubi3Sti (p : TwoStore) (s : State) : Host.Outcome State Fault Refusal :=
  toOutcome (twoSti .arithInt (subOrder s.params.parallelSubOrder (fun a b => subWords a b false)) p s)

/-- XOR3||STI (R457). -/
def execXor3Sti (p : TwoStore) (s : State) : Host.Outcome State Fault Refusal :=
  toOutcome (twoSti .logic (fun a b => plainResult (a ^^^ b)) p s)

/-! ## Two loads, two stores -/

/-- The two words that a two-load pair reads (R438, R440); between the reads other agents may act (R69). -/
def loadPair (p : LoadPair) (s : State) : Res (Word × Word × State) := do
  need (p.dst1 != p.dst2) .sameLoadRegister
  guardPair p.src2 p.src4
  let (a, s1) ← indirect p.src2 s
  let (b, s2) ← indirect p.src4 s1
  let (v, s3) ← memRead a s2
  let (w, s4) ← memRead b (agentsAct s3)
  .ok (v, w, s4)

/-- LDF||LDF (R438): no flag is written. -/
def execLdfLdf (p : LoadPair) (s : State) : Host.Outcome State Fault Refusal := toOutcome do
  let (v, w, s1) ← loadPair p s
  .ok (sequential ((s1.setR p.dst1 (widen v)).setR p.dst2 (widen w)))

/-- LDI||LDI (R440): no flag is written. -/
def execLdiLdi (p : LoadPair) (s : State) : Host.Outcome State Fault Refusal := toOutcome do
  let (v, w, s1) ← loadPair p s
  let s2 ← writeInt (.r p.dst1) v s1
  let s3 ← writeInt (.r p.dst2) w s2
  .ok (sequential s3)

/-- Two stores of words (R453, R454); two stores to one address are refused (R424). Between them other
agents may act (R69). -/
def storePair (p : StorePair) (v w : Word) (s : State) : Res State := do
  guardPair p.dst1 p.dst2
  let (a, s1) ← indirect p.dst1 s
  let (b, s2) ← indirect p.dst2 s1
  need (a != b) .sameStoreAddress
  let s3 ← memWrite a v s2
  let s4 ← memWrite b w (agentsAct s3)
  .ok (sequential s4)

/-- STF||STF (R453). -/
def execStfStf (p : StorePair) (s : State) : Host.Outcome State Fault Refusal :=
  toOutcome (storePair p (narrow (s.rn p.src1)) (narrow (s.rn p.src3)) s)

/-- STI||STI (R454). -/
def execStiSti (p : StorePair) (s : State) : Host.Outcome State Fault Refusal :=
  toOutcome (storePair p (intView (s.rn p.src1)) (intView (s.rn p.src3)) s)

/-! ## Multiply with add or subtract (R428) -/

/-- `op3`: R0 or R1. -/
def mulDst (p : MulPair) : Rn := if p.op3R1 then 1 else 0

/-- `op6`: R2 or R3. -/
def addDst (p : MulPair) : Rn := if p.op6R3 then 3 else 2

/-- The indirect operands among op1, op2, op4, op5. -/
def pairIndirects (p : MulPair) : List Indirect :=
  [p.op1, p.op2, p.op4, p.op5].filterMap fun x =>
    match x with
    | .ind i => some i
    | .reg _ => none

/-- Exactly two of op1, op2, op4, op5 are indirect (R428), and they do not clash (R211). -/
def guardMul (p : MulPair) : Res Unit :=
  match pairIndirects p with
  | [i, j] => guardPair i j
  | _ => refuse .parallelOperands

/-- The four operands of a float pair, all read before any write. -/
def mulPairFlt (p : MulPair) (s : State) : Res (Ext × Ext × Ext × Ext × State) := do
  guardMul p
  let (v1, s1) ← src3Flt s p.op1 s
  let (v2, s2) ← src3Flt s p.op2 s1
  let (v4, s3) ← src3Flt s p.op4 s2
  let (v5, s4) ← src3Flt s p.op5 s3
  .ok (v1, v2, v4, v5, s4)

/-- The four operands of an integer pair, all read before any write. -/
def mulPairInt (p : MulPair) (s : State) : Res (Word × Word × Word × Word × State) := do
  guardMul p
  let (v1, s1) ← mul3Int s p.op1 s
  let (v2, s2) ← mul3Int s p.op2 s1
  let (v4, s3) ← mul3Int s p.op4 s2
  let (v5, s4) ← mul3Int s p.op5 s3
  .ok (v1, v2, v4, v5, s4)

/-- The flags of a pair: V' and UF' of either operation (R425); Z' and N', which the default policy does not write,
are those of the sum or difference (log 28). -/
def pairFlags (q : NewFlags) (v uf : Bool) : NewFlags := ⟨none, v || q.v, q.z, q.n, uf || q.uf⟩

/-- A float product and a float sum or difference (R428, R425). -/
def mulPairFltOp (f : Ext → Ext → FltResult) (p : MulPair) (s : State) : Res State := do
  let (v1, v2, v4, v5, s1) ← mulPairFlt p s
  let m := fmul v1 v2
  let q := f v4 v5
  let s2 := (s1.setR (mulDst p) m.value).setR (addDst p) q.value
  .ok (sequential (putFlags .mpyAdd (pairFlags q.flags m.v m.uf) s2))

/-- An integer product and an integer sum or difference (R428, R425). -/
def mulPairIntOp (f : Word → Word → IntResult) (p : MulPair) (s : State) : Res State := do
  let (v1, v2, v4, v5, s1) ← mulPairInt p s
  let (m, s2) := mulWords v1 v2 s1
  let q := f v4 v5
  let s3 := s2.setR (mulDst p) (withInt (s2.rn (mulDst p)) m.value)
  let s4 := s3.setR (addDst p) (withInt (s3.rn (addDst p)) q.value)
  .ok (sequential (putFlags .mpyAdd (pairFlags q.flags m.v false) s4))

/-- MPYF3||ADDF3 (R443). -/
def execMpyf3Addf3 (p : MulPair) (s : State) : Host.Outcome State Fault Refusal := toOutcome (mulPairFltOp fadd p s)

/-- MPYF3||SUBF3 (R445). -/
def execMpyf3Subf3 (p : MulPair) (s : State) : Host.Outcome State Fault Refusal :=
  toOutcome (mulPairFltOp (subOrder s.params.parallelSubOrder fsub) p s)

/-- MPYI3||ADDI3 (R446). -/
def execMpyi3Addi3 (p : MulPair) (s : State) : Host.Outcome State Fault Refusal :=
  toOutcome (mulPairIntOp (fun a b => addWords a b false) p s)

/-- MPYI3||SUBI3 (R448). -/
def execMpyi3Subi3 (p : MulPair) (s : State) : Host.Outcome State Fault Refusal :=
  toOutcome (mulPairIntOp (subOrder s.params.parallelSubOrder (fun a b => subWords a b false)) p s)

end Sys2Proof.Machine
end

