-- ==== Sys2Proof/Machine/Dispatch.lean ====
section
/-! DEFINITION. One arm for each constructor of Instr. -/

namespace Sys2Proof.Machine

def exec (i : Instr) (s : State) : Host.Outcome State Fault Refusal :=
  match i with
  | .absi src dst => Sys2Proof.Machine.execAbsi src dst s
  | .addc src dst => Sys2Proof.Machine.execAddc src dst s
  | .addi src dst => Sys2Proof.Machine.execAddi src dst s
  | .and src dst => Sys2Proof.Machine.execAnd src dst s
  | .andn src dst => Sys2Proof.Machine.execAndn src dst s
  | .ash count dst => Sys2Proof.Machine.execAsh count dst s
  | .cmpi src dst => Sys2Proof.Machine.execCmpi src dst s
  | .ldi src dst => Sys2Proof.Machine.execLdi src dst s
  | .lsh count dst => Sys2Proof.Machine.execLsh count dst s
  | .mpyi src dst => Sys2Proof.Machine.execMpyi src dst s
  | .negb src dst => Sys2Proof.Machine.execNegb src dst s
  | .negi src dst => Sys2Proof.Machine.execNegi src dst s
  | .not src dst => Sys2Proof.Machine.execNot src dst s
  | .or src dst => Sys2Proof.Machine.execOr src dst s
  | .subb src dst => Sys2Proof.Machine.execSubb src dst s
  | .subc src dst => Sys2Proof.Machine.execSubc src dst s
  | .subi src dst => Sys2Proof.Machine.execSubi src dst s
  | .subrb src dst => Sys2Proof.Machine.execSubrb src dst s
  | .subri src dst => Sys2Proof.Machine.execSubri src dst s
  | .tstb src dst => Sys2Proof.Machine.execTstb src dst s
  | .xor src dst => Sys2Proof.Machine.execXor src dst s
  | .absf src dst => Sys2Proof.Machine.execAbsf src dst s
  | .addf src dst => Sys2Proof.Machine.execAddf src dst s
  | .cmpf src dst => Sys2Proof.Machine.execCmpf src dst s
  | .fix src dst => Sys2Proof.Machine.execFix src dst s
  | .float src dst => Sys2Proof.Machine.execFloat src dst s
  | .lde src dst => Sys2Proof.Machine.execLde src dst s
  | .ldf src dst => Sys2Proof.Machine.execLdf src dst s
  | .ldm src dst => Sys2Proof.Machine.execLdm src dst s
  | .mpyf src dst => Sys2Proof.Machine.execMpyf src dst s
  | .negf src dst => Sys2Proof.Machine.execNegf src dst s
  | .norm src dst => Sys2Proof.Machine.execNorm src dst s
  | .rnd src dst => Sys2Proof.Machine.execRnd src dst s
  | .subf src dst => Sys2Proof.Machine.execSubf src dst s
  | .subrf src dst => Sys2Proof.Machine.execSubrf src dst s
  | .stf src daddr => Sys2Proof.Machine.execStf src daddr s
  | .sti src daddr => Sys2Proof.Machine.execSti src daddr s
  | .pop dst => Sys2Proof.Machine.execPop dst s
  | .popf dst => Sys2Proof.Machine.execPopf dst s
  | .push src => Sys2Proof.Machine.execPush src s
  | .pushf src => Sys2Proof.Machine.execPushf src s
  | .ldp page => Sys2Proof.Machine.execLdp page s
  | .ldfi src dst => Sys2Proof.Machine.execLdfi src dst s
  | .ldii src dst => Sys2Proof.Machine.execLdii src dst s
  | .stfi src daddr => Sys2Proof.Machine.execStfi src daddr s
  | .stii src daddr => Sys2Proof.Machine.execStii src daddr s
  | .sigi => Sys2Proof.Machine.execSigi s
  | .rol dst => Sys2Proof.Machine.execRol dst s
  | .rolc dst => Sys2Proof.Machine.execRolc dst s
  | .ror dst => Sys2Proof.Machine.execRor dst s
  | .rorc dst => Sys2Proof.Machine.execRorc dst s
  | .idle => Sys2Proof.Machine.execIdle s
  | .idle2 => Sys2Proof.Machine.execIdle2 s
  | .nop src => Sys2Proof.Machine.execNop src s
  | .maxspeed => Sys2Proof.Machine.execMaxspeed s
  | .lopower => Sys2Proof.Machine.execLopower s
  | .rpts src => Sys2Proof.Machine.execRpts src s
  | .iack src => Sys2Proof.Machine.execIack src s
  | .addc3 src1 src2 dst => Sys2Proof.Machine.execAddc3 src1 src2 dst s
  | .addf3 src1 src2 dst => Sys2Proof.Machine.execAddf3 src1 src2 dst s
  | .addi3 src1 src2 dst => Sys2Proof.Machine.execAddi3 src1 src2 dst s
  | .and3 src1 src2 dst => Sys2Proof.Machine.execAnd3 src1 src2 dst s
  | .andn3 src1 src2 dst => Sys2Proof.Machine.execAndn3 src1 src2 dst s
  | .ash3 src count dst => Sys2Proof.Machine.execAsh3 src count dst s
  | .cmpf3 src1 src2 => Sys2Proof.Machine.execCmpf3 src1 src2 s
  | .cmpi3 src1 src2 => Sys2Proof.Machine.execCmpi3 src1 src2 s
  | .lsh3 src count dst => Sys2Proof.Machine.execLsh3 src count dst s
  | .mpyf3 src1 src2 dst => Sys2Proof.Machine.execMpyf3 src1 src2 dst s
  | .mpyi3 src1 src2 dst => Sys2Proof.Machine.execMpyi3 src1 src2 dst s
  | .or3 src1 src2 dst => Sys2Proof.Machine.execOr3 src1 src2 dst s
  | .subb3 src1 src2 dst => Sys2Proof.Machine.execSubb3 src1 src2 dst s
  | .subf3 src1 src2 dst => Sys2Proof.Machine.execSubf3 src1 src2 dst s
  | .subi3 src1 src2 dst => Sys2Proof.Machine.execSubi3 src1 src2 dst s
  | .tstb3 src1 src2 => Sys2Proof.Machine.execTstb3 src1 src2 s
  | .xor3 src1 src2 dst => Sys2Proof.Machine.execXor3 src1 src2 dst s
  | .ldfcond c src dst => Sys2Proof.Machine.execLdfcond c src dst s
  | .ldicond c src dst => Sys2Proof.Machine.execLdicond c src dst s
  | .br addr => Sys2Proof.Machine.execBr addr s
  | .brd addr => Sys2Proof.Machine.execBrd addr s
  | .call addr => Sys2Proof.Machine.execCall addr s
  | .rptb addr => Sys2Proof.Machine.execRptb addr s
  | .swi => Sys2Proof.Machine.execSwi s
  | .bcond c csrc => Sys2Proof.Machine.execBcond c csrc s
  | .bcondD c csrc => Sys2Proof.Machine.execBcondD c csrc s
  | .dbcond c ar csrc => Sys2Proof.Machine.execDbcond c ar csrc s
  | .dbcondD c ar csrc => Sys2Proof.Machine.execDbcondD c ar csrc s
  | .callcond c csrc => Sys2Proof.Machine.execCallcond c csrc s
  | .trapcond c n => Sys2Proof.Machine.execTrapcond c n s
  | .reticond c => Sys2Proof.Machine.execReticond c s
  | .retscond c => Sys2Proof.Machine.execRetscond c s
  | .mpyf3Addf3 p => Sys2Proof.Machine.execMpyf3Addf3 p s
  | .mpyf3Subf3 p => Sys2Proof.Machine.execMpyf3Subf3 p s
  | .mpyi3Addi3 p => Sys2Proof.Machine.execMpyi3Addi3 p s
  | .mpyi3Subi3 p => Sys2Proof.Machine.execMpyi3Subi3 p s
  | .stfStf p => Sys2Proof.Machine.execStfStf p s
  | .stiSti p => Sys2Proof.Machine.execStiSti p s
  | .ldfLdf p => Sys2Proof.Machine.execLdfLdf p s
  | .ldiLdi p => Sys2Proof.Machine.execLdiLdi p s
  | .absfStf p => Sys2Proof.Machine.execAbsfStf p s
  | .absiSti p => Sys2Proof.Machine.execAbsiSti p s
  | .addf3Stf p => Sys2Proof.Machine.execAddf3Stf p s
  | .addi3Sti p => Sys2Proof.Machine.execAddi3Sti p s
  | .and3Sti p => Sys2Proof.Machine.execAnd3Sti p s
  | .ash3Sti p => Sys2Proof.Machine.execAsh3Sti p s
  | .fixSti p => Sys2Proof.Machine.execFixSti p s
  | .floatStf p => Sys2Proof.Machine.execFloatStf p s
  | .ldfStf p => Sys2Proof.Machine.execLdfStf p s
  | .ldiSti p => Sys2Proof.Machine.execLdiSti p s
  | .lsh3Sti p => Sys2Proof.Machine.execLsh3Sti p s
  | .mpyf3Stf p => Sys2Proof.Machine.execMpyf3Stf p s
  | .mpyi3Sti p => Sys2Proof.Machine.execMpyi3Sti p s
  | .negfStf p => Sys2Proof.Machine.execNegfStf p s
  | .negiSti p => Sys2Proof.Machine.execNegiSti p s
  | .notSti p => Sys2Proof.Machine.execNotSti p s
  | .or3Sti p => Sys2Proof.Machine.execOr3Sti p s
  | .subf3Stf p => Sys2Proof.Machine.execSubf3Stf p s
  | .subi3Sti p => Sys2Proof.Machine.execSubi3Sti p s
  | .xor3Sti p => Sys2Proof.Machine.execXor3Sti p s

end Sys2Proof.Machine
end

