-- ==== Sys2Proof/Machine/Fetch.lean ====
section
/-! DEFINITION. The inputs of a step, the fetch, and what a step does with the instruction it fetched (R351,
R45, R39). -/

namespace Sys2Proof.Machine

/-- The inputs of one step (R45, R401, R476; log 11). With no input left the lines keep their levels. -/
def sampleInputs (s : State) : State :=
  match s.env with
  | [] => { s with between := [] }
  | e :: t =>
    outsideWrites e.writes
      { s with env := t, xf1 := e.xf1, rdyInt := e.rdyInt, xrdyInt := e.xrdyInt, between := e.between,
               sources := e.onSources s.sources }

/-- The word at `pc` into IR; from then on the address is part of the program, and one that the run has stored to is
refused (R75; log 12, 49). -/
def fetchWord (s : State) : Res State := do
  need (!s.stored.contains s.pc.toNat) .storedInstruction
  let (w, s1) ← memRead s.pc s
  .ok { s1 with ir := w, ran := noteAddr s.pc.toNat s1.ran }

/-- The instruction's word into IR: from memory, but under RPTS the repeated instruction is fetched once
(R39, R377; log 33). -/
def fetch (s : State) : Res State :=
  match s.rpts with
  | .looping => .ok s
  | .armed => do
    let s1 ← fetchWord s
    .ok { s1 with rpts := .looping }
  | .off => fetchWord s

/-- Execute the word in IR; a word that is no instruction is refused (R105, R131). -/
def execWord (s : State) : Host.Outcome State Fault Refusal :=
  match decode s.ir with
  | .error _ => .refused .illegalWord
  | .ok i => exec i s

/-- Fetch and execute one instruction. An instruction at RE in repeat mode may not stand in a delay slot
(R356; log 32). -/
def fetchExec (s : State) : Host.Outcome State Fault Refusal :=
  if s.pend.isSome && s.atRepeatEnd then .refused .repeatEndInDelaySlot
  else
    match fetch s with
    | .error r => .refused r
    | .ok s1 => execWord s1

/-- What a CPU that does not wait does: take an interrupt, or execute an instruction (R351, R474, R475). -/
def runNext (s : State) : Host.Outcome State Fault Refusal :=
  match decideInterrupt s.takeable s with
  | (some (i, v), s1) => toOutcome (enterInterrupt i v s1.pc s1)
  | (none, s1) => fetchExec s1

/-- One step, after its inputs: go on waiting (R13), or run. -/
def advance (s : State) : Host.Outcome State Fault Refusal :=
  match s.waiting with
  | some w => toOutcome (resume w s)
  | none => runNext s

/-- The state whose next step fetches the word w (log 43): the word stands in memory at `pc`, which no store of the
run has reached, and in IR where the fetch comes from there, and nothing waits. -/
def placeWord (s : State) (w : Word) : State :=
  { s with mem := s.mem.write s.pc.toNat w, stored := s.stored.filter (· != s.pc.toNat), waiting := none,
           ir := if s.rpts = .looping then w else s.ir }

end Sys2Proof.Machine
end

