-- ==== Sys2Proof/Machine/Step.lean ====
section
/-! DEFINITION. One step of the machine (R351), and the placing of a word to be fetched. -/

namespace Sys2Proof.Machine

/-- One step (R351). -/
def step (s : State) : Host.Outcome State Fault Refusal := advance (sampleInputs s)

/-- The instruction of an opcode-table word, stored where the next fetch takes it (log 43). -/
def State.withFetchWord (s : State) (nbits w : Nat) : State := placeWord s (BitVec.ofNat 32 (w % 2 ^ nbits))

end Sys2Proof.Machine
end

