-- ==== Sys2Proof/Safety.lean ====
section
/-! DEFINITION. What holds of every state a run passes through, when a run is over, and the vocabulary of
the statements about instructions: what an instruction may change, and the state its result makes. -/

namespace Sys2Proof.Machine

/-- Under RPTS no delayed branch is pending, RM is set, and the repeated instruction is the one at `pc`
(R356, R377). -/
def State.repeatsOne (s : State) : Bool :=
  s.rpts == .off || (s.pend.isNone && s.st.rm && s.pc == low24 s.re)

/-- An interlocked load waits with XF0 active and a store with it inactive (R403, R407); SIGI waits with XF0 active and
IDLE with GIE set, in no delay slot and not repeated (R356, R371, R409). -/
def State.waitsLegally (s : State) : Bool :=
  match s.waiting with
  | none => true
  | some (.ldfi _ _) | some (.ldii _ _) => !s.xf0
  | some (.store _ _) => s.xf0
  | some .sigi => s.pend.isNone && s.rpts == .off && !s.xf0
  | some .idle | some .idle2 => s.pend.isNone && s.rpts == .off && s.st.gie

/-- The invariant of the machine: memory is in its canonical form, OVM is 0 (R34), the IACK line is inactive
between instructions (R370), no address of the program has been stored to (R75), XF0 is active while the interlock is
held (R412), and the two conditions above. -/
structure Inv (s : State) : Prop where
  memory  : s.mem.wf = true
  noOvm   : s.st.ovm = false
  ackHigh : s.iack = true
  repeats : s.repeatsOne = true
  waits   : s.waitsLegally = true
  fixed   : ∀ a ∈ s.ran, a ∉ s.stored
  locks   : s.lock = true → s.xf0 = false

/-- A source is enabled and pending, now or after one of the inputs to come. -/
def deliverable : List EnvInput → List Source → Bool
  | [], l => (firstSource l 0).isSome
  | e :: t, l => (firstSource l 0).isSome || deliverable t (e.onSources l)

/-- An interrupt can be delivered to a CPU that waits in IDLE (R526). -/
def State.canDeliver (s : State) : Bool :=
  s.st.gie && s.pend.isNone && s.rpts == .off && deliverable s.env s.sources

/-- A run is over (R526): an unconditional branch to itself with no delayed branch pending, or an IDLE that no
interrupt can end. A branch that RPTS would repeat is refused and ends no run (R378). DESIGN CHOICE (log 51): the branch
ends the run before it executes, and the IDLE once it has executed and waits; R526 says only that the program reaches
it. -/
def State.runOver (s : State) : Bool :=
  match s.waiting with
  | some .idle | some .idle2 => !s.canDeliver
  | some (.ldfi _ _) | some (.ldii _ _) | some (.store _ _) | some .sigi => false
  | none =>
    s.pend.isNone && s.rpts == .off &&
      match fetch s with
      | .error _ => false
      | .ok s1 =>
        match decode s1.ir with
        | .ok (.br a) => a == s.pc
        | .ok (.bcond .u c) =>
          match target s.params.branchBase.bcond c s with
          | .ok t => t == s.pc
          | .error _ => false
        | .ok _ | .error _ => false

/-! ## What an instruction may change -/

def memIndirects (m : MemOp) : List Indirect :=
  match m with
  | .ind x => [x]
  | .dir _ => []

def srcIndirects (x : Src) : List Indirect :=
  match x with
  | .mem m => memIndirects m
  | .reg _ | .imm _ => []

def fsrcIndirects (x : FSrc) : List Indirect :=
  match x with
  | .mem m => memIndirects m
  | .reg _ | .imm _ => []

def src3Indirects (x : Src3) : List Indirect :=
  match x with
  | .ind j => [j]
  | .reg _ => []

def fsrc3Indirects (x : FSrc3) : List Indirect :=
  match x with
  | .ind j => [j]
  | .reg _ => []

/-- The indirect operands of an instruction. -/
def indirects (i : Instr) : List Indirect :=
  match i with
  | .absi x _ | .addc x _ | .addi x _ | .and x _ | .andn x _ | .ash x _ | .cmpi x _ | .ldi x _ | .lsh x _ | .mpyi x _
  | .negb x _ | .negi x _ | .not x _ | .or x _ | .subb x _ | .subc x _ | .subi x _ | .subrb x _ | .subri x _
  | .tstb x _ | .xor x _ | .float x _ | .rpts x | .ldicond _ x _ => srcIndirects x
  | .absf x _ | .addf x _ | .cmpf x _ | .fix x _ | .lde x _ | .ldf x _ | .ldm x _ | .mpyf x _ | .negf x _ | .norm x _
  | .rnd x _ | .subf x _ | .subrf x _ | .ldfcond _ x _ => fsrcIndirects x
  | .stf _ m | .sti _ m | .ldfi m _ | .ldii m _ | .stfi _ m | .stii _ m | .iack m => memIndirects m
  | .nop x => x.toList
  | .addc3 x y _ | .addi3 x y _ | .and3 x y _ | .andn3 x y _ | .ash3 x y _ | .cmpi3 x y | .lsh3 x y _ | .mpyi3 x y _
  | .or3 x y _ | .subb3 x y _ | .subi3 x y _ | .tstb3 x y | .xor3 x y _ => src3Indirects x ++ src3Indirects y
  | .addf3 x y _ | .cmpf3 x y | .mpyf3 x y _ | .subf3 x y _ => fsrc3Indirects x ++ fsrc3Indirects y
  | .mpyf3Addf3 p | .mpyf3Subf3 p | .mpyi3Addi3 p | .mpyi3Subi3 p => pairIndirects p
  | .stfStf p | .stiSti p => [p.dst1, p.dst2]
  | .ldfLdf p | .ldiLdi p => [p.src2, p.src4]
  | .absfStf p | .absiSti p | .fixSti p | .floatStf p | .ldfStf p | .ldiSti p | .negfStf p | .negiSti p
  | .notSti p => [p.src2, p.dst2]
  | .addf3Stf p | .addi3Sti p | .and3Sti p | .ash3Sti p | .lsh3Sti p | .mpyf3Stf p | .mpyi3Sti p | .or3Sti p
  | .subf3Stf p | .subi3Sti p | .xor3Sti p => [p.src2, p.dst2]
  | .pop _ | .popf _ | .push _ | .pushf _ | .ldp _ | .sigi | .rol _ | .rolc _ | .ror _ | .rorc _ | .idle | .idle2
  | .maxspeed | .lopower | .br _ | .brd _ | .call _ | .rptb _ | .swi | .bcond _ _ | .bcondD _ _ | .callcond _ _
  | .trapcond _ _ | .reticond _ | .retscond _ | .dbcond _ _ _ | .dbcondD _ _ _ => []

/-- An operand of the instruction modifies that auxiliary register (R200 to R214). -/
def updates (i : Instr) (n : ARn) : Bool := (indirects i).any fun x => clobbers x (.ar n)

/-- The destination registers of an instruction, with SP for the instructions that push or pop, the repeat registers
for RPTB and RPTS, and the register that DBcond decrements (R366). -/
def destinations (i : Instr) : List Reg :=
  match i with
  | .absi _ dst | .addc _ dst | .addi _ dst | .and _ dst | .andn _ dst | .ash _ dst | .ldi _ dst | .lsh _ dst
  | .mpyi _ dst | .negb _ dst | .negi _ dst | .not _ dst | .or _ dst | .subb _ dst | .subc _ dst | .subi _ dst
  | .subrb _ dst | .subri _ dst | .xor _ dst | .fix _ dst | .ldii _ dst | .ldicond _ _ dst => [dst]
  | .rol dst | .rolc dst | .ror dst | .rorc dst => [dst]
  | .absf _ n | .addf _ n | .float _ n | .lde _ n | .ldf _ n | .ldm _ n | .mpyf _ n | .negf _ n | .norm _ n
  | .rnd _ n | .subf _ n | .subrf _ n | .ldfcond _ _ n | .ldfi _ n => [.r n]
  | .addc3 _ _ dst | .addi3 _ _ dst | .and3 _ _ dst | .andn3 _ _ dst | .ash3 _ _ dst | .lsh3 _ _ dst
  | .mpyi3 _ _ dst | .or3 _ _ dst | .subb3 _ _ dst | .subi3 _ _ dst | .xor3 _ _ dst => [dst]
  | .addf3 _ _ n | .mpyf3 _ _ n | .subf3 _ _ n => [.r n]
  | .pop dst => [dst, .sp]
  | .popf n => [.r n, .sp]
  | .push _ | .pushf _ | .call _ | .callcond _ _ | .trapcond _ _ | .reticond _ | .retscond _ => [.sp]
  | .ldp _ => [.dp]
  | .rptb _ => [.rs, .re]
  | .rpts _ => [.rs, .re, .rc]
  | .dbcond _ a _ | .dbcondD _ a _ => [.ar a]
  | .mpyf3Addf3 p | .mpyf3Subf3 p | .mpyi3Addi3 p | .mpyi3Subi3 p => [.r (mulDst p), .r (addDst p)]
  | .ldfLdf p | .ldiLdi p => [.r p.dst1, .r p.dst2]
  | .absfStf p | .absiSti p | .fixSti p | .floatStf p | .ldfStf p | .ldiSti p | .negfStf p | .negiSti p
  | .notSti p => [.r p.dst1]
  | .addf3Stf p | .addi3Sti p | .and3Sti p | .ash3Sti p | .lsh3Sti p | .mpyf3Stf p | .mpyi3Sti p | .or3Sti p
  | .subf3Stf p | .subi3Sti p | .xor3Sti p => [.r p.dst1]
  | .cmpi _ _ | .tstb _ _ | .cmpf _ _ | .cmpi3 _ _ | .tstb3 _ _ | .cmpf3 _ _ | .stf _ _ | .sti _ _ | .stfi _ _
  | .stii _ _ | .sigi | .idle | .idle2 | .nop _ | .maxspeed | .lopower | .iack _ | .br _ | .brd _ | .swi
  | .bcond _ _ | .bcondD _ _ | .stfStf _ | .stiSti _ => []

/-- The register may differ after the instruction: it is a destination, or an auxiliary register that an
operand modifies. -/
def mayWrite (i : Instr) (r : Reg) : Bool :=
  (destinations i).contains r ||
    match r with
    | .ar n => updates i n
    | .r _ | .dp | .ir0 | .ir1 | .bk | .sp | .st | .ie | .ifr | .iof | .rs | .re | .rc => false

/-- The whole contents of a register, 40 bits for R0 to R7 and 32 for the others. -/
def State.contents (s : State) (r : Reg) : Ext :=
  match r with
  | .r n => s.rn n
  | .ar n => (s.arn n).setWidth 40
  | .dp => s.dp.setWidth 40
  | .ir0 => s.ir0.setWidth 40
  | .ir1 => s.ir1.setWidth 40
  | .bk => s.bk.setWidth 40
  | .sp => s.sp.setWidth 40
  | .st => (s.st.toWord s.params.stLayout).setWidth 40
  | .ie => s.ie.setWidth 40
  | .ifr => s.ifr.setWidth 40
  | .iof => s.iof.setWidth 40
  | .rs => s.rs.setWidth 40
  | .re => s.re.setWidth 40
  | .rc => s.rc.setWidth 40

/-- The seven condition flags (R32). -/
inductive Flag where
  | c | v | z | n | uf | lv | luf
  deriving DecidableEq, Repr

def Status.flag (st : Status) (f : Flag) : Bool :=
  match f with
  | .c => st.c
  | .v => st.v
  | .z => st.z
  | .n => st.n
  | .uf => st.uf
  | .lv => st.lv
  | .luf => st.luf

/-- The class of an instruction (R174); the first half of an operation with a store has the class of the
operation (PAR_ARITH); the moves (PAR_MOVE) and the class NONE write no flag. -/
def flagClass (i : Instr) : Option FlagClass :=
  match i with
  | .cmpi _ _ | .cmpi3 _ _ => some .cmpInt
  | .cmpf _ _ | .cmpf3 _ _ => some .cmpFlt
  | .tstb _ _ | .tstb3 _ _ => some .test
  | .rol _ | .rolc _ | .ror _ | .rorc _ => some .rot
  | .ldi _ _ | .ldii _ _ | .pop _ => some .loadInt
  | .ldf _ _ | .ldfi _ _ | .popf _ => some .loadFlt
  | .addi _ _ | .addi3 _ _ _ | .addc _ _ | .addc3 _ _ _ | .subi _ _ | .subi3 _ _ _ | .subb _ _ | .subb3 _ _ _
  | .subri _ _ | .subrb _ _ | .negi _ _ | .negb _ _ | .addi3Sti _ | .subi3Sti _ | .negiSti _ => some .arithInt
  | .absi _ _ | .absiSti _ => some .absInt
  | .mpyi _ _ | .mpyi3 _ _ _ | .mpyi3Sti _ => some .mulInt
  | .and _ _ | .and3 _ _ _ | .andn _ _ | .andn3 _ _ _ | .or _ _ | .or3 _ _ _ | .xor _ _ | .xor3 _ _ _ | .not _ _
  | .and3Sti _ | .or3Sti _ | .xor3Sti _ | .notSti _ => some .logic
  | .ash _ _ | .ash3 _ _ _ | .lsh _ _ | .lsh3 _ _ _ | .ash3Sti _ | .lsh3Sti _ => some .shift
  | .addf _ _ | .addf3 _ _ _ | .subf _ _ | .subf3 _ _ _ | .subrf _ _ | .mpyf _ _ | .mpyf3 _ _ _ | .negf _ _
  | .absf _ _ | .norm _ _ | .rnd _ _ | .float _ _ | .addf3Stf _ | .subf3Stf _ | .mpyf3Stf _ | .negfStf _
  | .absfStf _ | .floatStf _ => some .arithFlt
  | .fix _ _ | .fixSti _ => some .fix
  | .mpyf3Addf3 _ | .mpyf3Subf3 _ | .mpyi3Addi3 _ | .mpyi3Subi3 _ => some .mpyAdd
  | .lde _ _ | .ldm _ _ | .ldfcond _ _ _ | .ldicond _ _ _ | .ldp _ | .push _ | .pushf _ | .stf _ _ | .sti _ _
  | .stfi _ _ | .stii _ _ | .sigi | .subc _ _ | .nop _ | .iack _ | .idle | .idle2 | .lopower | .maxspeed | .br _
  | .brd _ | .bcond _ _ | .bcondD _ _ | .call _ | .callcond _ _ | .dbcond _ _ _ | .dbcondD _ _ _ | .retscond _
  | .rptb _ | .rpts _ | .swi | .reticond _ | .trapcond _ _ | .ldfLdf _ | .ldiLdi _ | .ldfStf _ | .ldiSti _
  | .stfStf _ | .stiSti _ => none

/-- The entry of a row for a flag. -/
def flagEntry (w : FlagRow) (f : Flag) : FlagEffect :=
  match f with
  | .c => w.c
  | .v => w.v
  | .z => w.z
  | .n => w.n
  | .uf => w.uf
  | .lv => w.lv
  | .luf => w.luf

/-- The flag may differ after the instruction (R174): the entry of its class is not "-" and the last column allows
it, or the destination is ST. -/
def mayWriteFlag (p : FlagPolicy) (i : Instr) (f : Flag) : Bool :=
  (destinations i).contains .st ||
    match flagClass i with
    | none => false
    | some k =>
      let w := flagRow p k
      flagEntry w f != .keep &&
        (w.always || (w.cAlways && f == .c) || (destinations i).isEmpty || (destinations i).any isExtended)

/-- The addresses that an instruction stores to, from the state before it (R30, R243, R244, R364, R423, R453). -/
def storeAddresses (i : Instr) (s : State) : List Addr :=
  let one (x : Res (Addr × State)) : List Addr :=
    match x with
    | .ok (a, _) => [a]
    | .error _ => []
  match i with
  | .stf _ m | .sti _ m | .stfi _ m | .stii _ m => one (ea m s)
  | .push _ | .pushf _ | .call _ | .callcond _ _ | .trapcond _ _ => [low24 (s.sp + 1)]
  | .stfStf p | .stiSti p =>
    match indirect p.dst1 s with
    | .ok (a, s1) => a :: one (indirect p.dst2 s1)
    | .error _ => []
  | .absfStf p | .absiSti p | .fixSti p | .floatStf p | .ldfStf p | .ldiSti p | .negfStf p | .negiSti p
  | .notSti p => one (indirect p.dst2 s)
  | .addf3Stf p | .addi3Sti p | .and3Sti p | .ash3Sti p | .lsh3Sti p | .mpyf3Stf p | .mpyi3Sti p | .or3Sti p
  | .subf3Stf p | .subi3Sti p | .xor3Sti p => one (indirect p.dst2 s)
  | .absi _ _ | .addc _ _ | .addi _ _ | .and _ _ | .andn _ _ | .ash _ _ | .cmpi _ _ | .ldi _ _ | .lsh _ _ | .mpyi _ _
  | .negb _ _ | .negi _ _ | .not _ _ | .or _ _ | .subb _ _ | .subc _ _ | .subi _ _ | .subrb _ _ | .subri _ _
  | .tstb _ _ | .xor _ _ | .absf _ _ | .addf _ _ | .cmpf _ _ | .fix _ _ | .float _ _ | .lde _ _ | .ldf _ _
  | .ldm _ _ | .mpyf _ _ | .negf _ _ | .norm _ _ | .rnd _ _ | .subf _ _ | .subrf _ _ | .pop _ | .popf _ | .ldp _
  | .ldfi _ _ | .ldii _ _ | .sigi | .rol _ | .rolc _ | .ror _ | .rorc _ | .idle | .idle2 | .nop _ | .maxspeed
  | .lopower | .rpts _ | .iack _ | .addc3 _ _ _ | .addf3 _ _ _ | .addi3 _ _ _ | .and3 _ _ _ | .andn3 _ _ _
  | .ash3 _ _ _ | .cmpf3 _ _ | .cmpi3 _ _ | .lsh3 _ _ _ | .mpyf3 _ _ _ | .mpyi3 _ _ _ | .or3 _ _ _ | .subb3 _ _ _
  | .subf3 _ _ _ | .subi3 _ _ _ | .tstb3 _ _ | .xor3 _ _ _ | .ldfcond _ _ _ | .ldicond _ _ _ | .br _ | .brd _
  | .rptb _ | .swi | .bcond _ _ | .bcondD _ _ | .dbcond _ _ _ | .dbcondD _ _ _ | .reticond _ | .retscond _
  | .mpyf3Addf3 _ | .mpyf3Subf3 _ | .mpyi3Addi3 _ | .mpyi3Subi3 _ | .ldfLdf _ | .ldiLdi _ => []

/-! ## The states that results make -/

/-- A word can be stored there (R62, R75). -/
def State.writable (s : State) (a : Addr) : Prop := s.kindAt a ≠ .unmapped ∧ s.inProgram a = false

/-- An exact integer result is outside the signed 32-bit range (R160). -/
def overflows (x : Int) : Bool := !(decide (-2147483648 ≤ x) && decide (x ≤ 2147483647))

/-- The flags of an integer result x of class k: by the entries of the class, C' is c (where there is one), V' is v,
Z' and N' are those of x, UF' is 0; LV accumulates V', LUF accumulates UF' (R170 to R174). -/
def State.integerFlags (s : State) (k : FlagClass) (x : Word) (c : Option Bool) (v : Bool) : State :=
  let w := flagRow s.params.flagPolicy k
  { s with
    st := { s.st with
      c := flagAfter w.c s.st.c (c.getD s.st.c), v := flagAfter w.v s.st.v v,
      z := flagAfter w.z s.st.z (decide (x = 0#32)), n := flagAfter w.n s.st.n x.msb, uf := flagAfter w.uf s.st.uf false,
      lv := flagAfter w.lv s.st.lv v, luf := flagAfter w.luf s.st.luf false } }

/-- Bits 31 to 0 of Rn are x and bits 39 to 32 as before (R23), with the flags. -/
def State.integerResult (s : State) (k : FlagClass) (n : Rn) (x : Word) (c : Option Bool) (v : Bool) : State :=
  { s.integerFlags k x c v with r := s.r.set n ((s.rn n).extractLsb' 32 8 ++ x) }

/-- The flags of a float result p of class k: C' does not exist, V' is v, UF' is uf, Z' and N' say that the value of
p is zero, or negative (R172 to R174). -/
def State.floatFlags (s : State) (k : FlagClass) (p : Ext) (v uf : Bool) : State :=
  let w := flagRow s.params.flagPolicy k
  { s with
    st := { s.st with
      c := flagAfter w.c s.st.c s.st.c, v := flagAfter w.v s.st.v v, z := flagAfter w.z s.st.z (decide (valF p = 0)),
      n := flagAfter w.n s.st.n (decide (valF p < 0)), uf := flagAfter w.uf s.st.uf uf, lv := flagAfter w.lv s.st.lv v,
      luf := flagAfter w.luf s.st.luf uf } }

/-- All 40 bits of Rn are p, with the flags of a float result (R261). -/
def State.floatResult (s : State) (k : FlagClass) (n : Rn) (p : Ext) (v uf : Bool) : State :=
  { s.floatFlags k p v uf with r := s.r.set n p }

/-- A float load: the class LOAD_FLT, with V' and UF' 0. -/
def State.floatLoad (s : State) (n : Rn) (p : Ext) : State := s.floatResult .loadFlt n p false false

/-- C alone, by its entry in the class. -/
def State.carryFlag (s : State) (k : FlagClass) (c : Option Bool) : State :=
  { s with st := { s.st with c := flagAfter (flagRow s.params.flagPolicy k).c s.st.c (c.getD s.st.c) } }

/-- An integer result written to any register: with the flags for one of R0 to R7; with none for ST, whose written
word wins; and for the others as the last column of the class says (R23, R174, R245, R260). -/
def State.integerWrite (s : State) (k : FlagClass) (dst : Reg) (x : Word) (c : Option Bool) (v : Bool) : Res State :=
  let w := flagRow s.params.flagPolicy k
  match dst with
  | .r n => .ok (s.integerResult k n x c v)
  | .st => writeInt .st x s
  | .ar _ | .dp | .ir0 | .ir1 | .bk | .sp | .ie | .ifr | .iof | .rs | .re | .rc =>
    writeInt dst x (if w.always then s.integerFlags k x c v else if w.cAlways then s.carryFlag k c else s)

/-- The instructions that R356 refuses in a delay slot; R378 refuses them under RPTS too. -/
def controls (i : Instr) : Bool :=
  match i with
  | .bcond _ _ | .bcondD _ _ | .br _ | .brd _ | .call _ | .callcond _ _ | .dbcond _ _ _ | .dbcondD _ _ _
  | .reticond _ | .retscond _ | .trapcond _ _ | .rptb _ | .rpts _ | .idle | .idle2 | .swi | .sigi => true
  | .absi _ _ | .addc _ _ | .addi _ _ | .and _ _ | .andn _ _ | .ash _ _ | .cmpi _ _ | .ldi _ _ | .lsh _ _
  | .mpyi _ _ | .negb _ _ | .negi _ _ | .not _ _ | .or _ _ | .subb _ _ | .subc _ _ | .subi _ _ | .subrb _ _
  | .subri _ _ | .tstb _ _ | .xor _ _ | .absf _ _ | .addf _ _ | .cmpf _ _ | .fix _ _ | .float _ _ | .lde _ _
  | .ldf _ _ | .ldm _ _ | .mpyf _ _ | .negf _ _ | .norm _ _ | .rnd _ _ | .subf _ _ | .subrf _ _ | .stf _ _
  | .sti _ _ | .pop _ | .popf _ | .push _ | .pushf _ | .ldp _ | .ldfi _ _ | .ldii _ _ | .stfi _ _ | .stii _ _
  | .rol _ | .rolc _ | .ror _ | .rorc _ | .nop _ | .maxspeed | .lopower | .iack _ | .addc3 _ _ _ | .addf3 _ _ _
  | .addi3 _ _ _ | .and3 _ _ _ | .andn3 _ _ _ | .ash3 _ _ _ | .cmpf3 _ _ | .cmpi3 _ _ | .lsh3 _ _ _
  | .mpyf3 _ _ _ | .mpyi3 _ _ _ | .or3 _ _ _ | .subb3 _ _ _ | .subf3 _ _ _ | .subi3 _ _ _ | .tstb3 _ _
  | .xor3 _ _ _ | .ldfcond _ _ _ | .ldicond _ _ _ | .mpyf3Addf3 _ | .mpyf3Subf3 _ | .mpyi3Addi3 _
  | .mpyi3Subi3 _ | .stfStf _ | .stiSti _ | .ldfLdf _ | .ldiLdi _ | .absfStf _ | .absiSti _ | .addf3Stf _
  | .addi3Sti _ | .and3Sti _ | .ash3Sti _ | .fixSti _ | .floatStf _ | .ldfStf _ | .ldiSti _ | .lsh3Sti _
  | .mpyf3Stf _ | .mpyi3Sti _ | .negfStf _ | .negiSti _ | .notSti _ | .or3Sti _ | .subf3Stf _ | .subi3Sti _
  | .xor3Sti _ => false

/-- The flags of a multiply with an add or subtract (R425): V' and UF' of either; Z' and N', which the default policy
does not write, are z and n. -/
def State.pairFlags (s : State) (v uf z n : Bool) : State :=
  let w := flagRow s.params.flagPolicy .mpyAdd
  { s with
    st := { s.st with
      c := flagAfter w.c s.st.c s.st.c, v := flagAfter w.v s.st.v v, z := flagAfter w.z s.st.z z,
      n := flagAfter w.n s.st.n n, uf := flagAfter w.uf s.st.uf uf, lv := flagAfter w.lv s.st.lv v,
      luf := flagAfter w.luf s.st.luf uf } }

def srcRegs (x : Src) : List Reg :=
  match x with
  | .reg r => [r]
  | .mem _ | .imm _ => []

def src3Regs (x : Src3) : List Reg :=
  match x with
  | .reg r => [r]
  | .ind _ => []

def csrcRegs (x : Csrc) : List Reg :=
  match x with
  | .reg r => [r]
  | .disp _ => []

/-- The registers that an instruction names as an operand that may be any of the 28. -/
def operandRegs (i : Instr) : List Reg :=
  match i with
  | .absi x d | .addc x d | .addi x d | .and x d | .andn x d | .ash x d | .cmpi x d | .ldi x d | .lsh x d | .mpyi x d
  | .negb x d | .negi x d | .not x d | .or x d | .subb x d | .subc x d | .subi x d | .subrb x d | .subri x d
  | .tstb x d | .xor x d | .ldicond _ x d => d :: srcRegs x
  | .float x _ | .rpts x => srcRegs x
  | .fix _ d | .sti d _ | .stii d _ | .ldii _ d | .pop d | .push d | .rol d | .rolc d | .ror d | .rorc d => [d]
  | .addc3 x y d | .addi3 x y d | .and3 x y d | .andn3 x y d | .ash3 x y d | .lsh3 x y d | .mpyi3 x y d | .or3 x y d
  | .subb3 x y d | .subi3 x y d | .xor3 x y d => d :: (src3Regs x ++ src3Regs y)
  | .cmpi3 x y | .tstb3 x y => src3Regs x ++ src3Regs y
  | .bcond _ x | .bcondD _ x | .callcond _ x | .dbcond _ _ x | .dbcondD _ _ x => csrcRegs x
  | .absf _ _ | .addf _ _ | .cmpf _ _ | .lde _ _ | .ldf _ _ | .ldm _ _ | .mpyf _ _ | .negf _ _ | .norm _ _ | .rnd _ _
  | .subf _ _ | .subrf _ _ | .ldfcond _ _ _ | .stf _ _ | .ldfi _ _ | .stfi _ _ | .iack _ | .nop _ | .addf3 _ _ _
  | .cmpf3 _ _ | .mpyf3 _ _ _ | .subf3 _ _ _ | .mpyf3Addf3 _ | .mpyf3Subf3 _ | .mpyi3Addi3 _ | .mpyi3Subi3 _
  | .stfStf _ | .stiSti _ | .ldfLdf _ | .ldiLdi _ | .absfStf _ | .absiSti _ | .addf3Stf _ | .addi3Sti _ | .and3Sti _
  | .ash3Sti _ | .fixSti _ | .floatStf _ | .ldfStf _ | .ldiSti _ | .lsh3Sti _ | .mpyf3Stf _ | .mpyi3Sti _
  | .negfStf _ | .negiSti _ | .notSti _ | .or3Sti _ | .subf3Stf _ | .subi3Sti _ | .xor3Sti _ | .popf _ | .pushf _
  | .ldp _ | .sigi | .idle | .idle2 | .maxspeed | .lopower | .br _ | .brd _ | .call _ | .rptb _ | .swi
  | .trapcond _ _ | .reticond _ | .retscond _ => []

/-- The values of the operands of a parallel multiply, in order: registers by `reg`, and indirect operands the words
of a list, in order. -/
def pairValues {α : Type} (reg : Rn → α) : List FSrc3 → List α → List α
  | [], _ => []
  | .reg n :: t, l => reg n :: pairValues reg t l
  | .ind _ :: t, v :: l => v :: pairValues reg t l
  | .ind _ :: _, [] => []

/-- The value of a pattern of M fraction bits with exponent e and sign s (R148). -/
def formatValue (lowest e : Int) (negative : Bool) (f m : Nat) : ℚ :=
  if e = lowest then 0 else if negative then (-2 + f / 2 ^ m) * 2 ^ e else (1 + f / 2 ^ m) * 2 ^ e

end Sys2Proof.Machine
end

