-- ==== Sys2Proof/Certificates/Slice0/Obligations.lean ====
section
/-! DEFINITION. The statements for the provers. A statement's docstring names the rules of spec/ it is about, and
the log entries where it rests on a choice of the model. `sequential` is what follows an instruction that
transfers nowhere; the statements on the repeat mechanism and on delayed branches say what it does. -/

open Sys2Proof Sys2Proof.Machine

/-! ## The encoding -/

/-- Words written out bit by bit from the formats of R112, R114, R116 to R121 decode to the instructions they
stand for (log 1: the annex is general knowledge). -/
def Obligations.DecodesTheWordsOfTheFormats : Prop :=
  decode 0b000_000100_01_00111_1011110011011110#32 = .ok (.addi (.mem (.dir 0xBCDE#16)) (.r 7)) ∧
  decode 0b000_000100_10_00111_10100011_00000000#32 = .ok (.addi (.mem (.ind (.indexed .postAdd .ir1 3))) (.r 7)) ∧
  decode 0b000_000100_10_00111_01010011_00000000#32 = .ok (.addi (.mem (.ind (.indexed .preAddMod .ir0 3))) (.r 7)) ∧
  decode 0b001_000010_00_00111_00000000_00000010#32 = .ok (.addi3 (.reg (.r 0)) (.reg (.r 2)) (.r 7)) ∧
  decode 0b010_1_00101_00_00000_0000000000000001#32 = .ok (.ldicond .eq (.reg (.r 1)) (.r 0)) ∧
  decode 0b011_00000_000000001000000000000000#32 = .ok (.br 0x8000#24) ∧
  decode 0b011_010_1_000_0_00110_1111111111111101#32 = .ok (.bcond .ne (.disp 0xFFFD#16)) ∧
  decode 0b011_101_0_000_0_00000_0000000000100101#32 = .ok (.trapcond .u 5) ∧
  decode 0b11_00111_001_000_011_11000001_00100000#32 =
    .ok (.addi3Sti ⟨0, .indexed .postAdd (.disp 1#8) 0, 1, 3, .plain 1⟩) ∧
  decode 0b10_0000_00_0_0_100_101_11000001_11000010#32 =
    .ok (.mpyf3Addf3 ⟨.ind (.plain 1), .ind (.plain 2), false, .reg 4, .reg 5, false⟩)

/-- No bit of an encoding is dropped: the word of every well-formed instruction decodes to that instruction, with
every operand at every value (R112 to R121). -/
def Obligations.DecodeOfEncode : Prop := ∀ i : Instr, i.wf = true → decode (encode i) = .ok i

/-- The decoder builds only operands that the legends of Tabla 3-12 allow: what it accepts is well formed
(R105, R221, R222). -/
def Obligations.DecodedIsWellFormed : Prop := ∀ (w : Word) (i : Instr), decode w = .ok i → i.wf = true

/-- Words that are no instruction (R105, R131): unassigned operation numbers; condition numbers 11 and 21 to 31;
register numbers 28 to 31 in any field that is read, the register of a branch among them, and nonzero fill bits beside a
register operand of format G or of a conditional load (R112, R116, R118); in a float instruction, a register source
above R7 (R167) or a register that the legend calls `Rn` above R7 (R221); `mod` fields above 11001b; operand forms that
the legend of Tabla 3-12 does not allow; and other values of the bits that the formats fix (R113, R118, R119, R121).
The numbers are the annex's, and so are the fields that are not read (log 1).
A step that fetches a word that is no instruction is refused. -/
def Obligations.WordsThatAreNoInstruction : Prop :=
  (∀ w : Word, let top := (w.extractLsb' 29 3).toNat
    let op := (w.extractLsb' 23 6).toNat
    let form := (w.extractLsb' 21 2).toNat
    let dst := (w.extractLsb' 16 5).toNat
    let src := (w.extractLsb' 0 5).toNat
    let src1 := (w.extractLsb' 8 5).toNat
    let low := (w.extractLsb' 0 16).toNat
    let hi := (w.extractLsb' 11 5).toNat
    let lo := (w.extractLsb' 3 5).toNat
    let branch := (w.extractLsb' 26 3).toNat
    let badCond (c : Nat) := c = 11 ∨ 21 ≤ c
    -- operation numbers
    (top = 0 ∧ 0x37 ≤ op) ∨ (top = 1 ∧ 0x11 ≤ op) ∨
    (top = 3 ∧ (w.extractLsb' 24 5).toNat ∈ [3, 5, 7, 28, 29, 30, 31]) ∨
    (4 ≤ top ∧ top ≤ 5 ∧ 4 ≤ (w.extractLsb' 26 4).toNat) ∨ (6 ≤ top ∧ 0x18 ≤ (w.extractLsb' 25 5).toNat) ∨
    -- conditions
    (top = 2 ∧ badCond (w.extractLsb' 23 5).toNat) ∨ (top = 3 ∧ 2 ≤ branch ∧ badCond dst) ∨
    -- registers
    (top = 0 ∧ op ≠ 0x19 ∧ 28 ≤ dst) ∨ (top = 1 ∧ op ∉ [6, 7, 15] ∧ 28 ≤ dst) ∨ (top = 2 ∧ 28 ≤ dst) ∨
    ((top = 0 ∨ top = 2) ∧ form = 0 ∧ (w.extractLsb' 5 11 ≠ 0#11 ∨ 28 ≤ src)) ∨
    (top = 1 ∧ w.getLsbD 21 = false ∧ 28 ≤ src1) ∨ (top = 1 ∧ w.getLsbD 22 = false ∧ 28 ≤ src) ∨
    (top = 3 ∧ branch ∈ [2, 3, 4] ∧ w.getLsbD 25 = false ∧ 28 ≤ src) ∨
    -- registers of float instructions
    (top = 0 ∧ op ∈ [0, 3, 8, 11, 13, 14, 15, 18, 20, 23, 26, 29, 31, 34, 40, 41, 47, 50] ∧ 8 ≤ dst) ∨
    (top = 0 ∧ form = 0 ∧ op ∈ [0, 3, 8, 10, 13, 14, 18, 20, 23, 26, 34, 47, 50] ∧ 8 ≤ src) ∨
    (top = 1 ∧ op ∈ [1, 9, 13] ∧ 8 ≤ dst) ∨
    (top = 1 ∧ op ∈ [1, 6, 9, 13] ∧ (w.getLsbD 21 = false ∧ 8 ≤ src1 ∨ w.getLsbD 22 = false ∧ 8 ≤ src)) ∨
    (top = 2 ∧ w.getLsbD 28 = false ∧ (8 ≤ dst ∨ form = 0 ∧ 8 ≤ src)) ∨
    -- indirect forms
    (top = 0 ∧ form = 2 ∧ 26 ≤ hi) ∨ (top = 2 ∧ form = 2 ∧ 26 ≤ hi) ∨ (top = 1 ∧ w.getLsbD 21 = true ∧ 26 ≤ hi) ∨
    (top = 1 ∧ w.getLsbD 22 = true ∧ 26 ≤ lo) ∨ (4 ≤ top ∧ (26 ≤ hi ∨ 26 ≤ lo)) ∨
    -- operands that must be in memory
    (top = 0 ∧ op ∈ [15, 17, 40, 41, 42, 43, 54] ∧ (form = 0 ∨ form = 3)) ∨
    (top = 0 ∧ op = 0x19 ∧ (form = 1 ∨ form = 3)) ∨
    -- bits that the formats fix
    (top = 0 ∧ op ∈ [0x0C, 0x21] ∧ (form ≠ 0 ∨ dst ≠ 0 ∨ 2 ≤ low)) ∨
    (top = 0 ∧ op = 0x2C ∧ (form ≠ 0 ∨ dst ≠ 0 ∨ low ≠ 0)) ∨
    (top = 0 ∧ op = 0x19 ∧ form = 0 ∧ (dst ≠ 0 ∨ low ≠ 0)) ∨
    (top = 0 ∧ op ∈ [0x1C, 0x1D, 0x1E, 0x1F] ∧ (form ≠ 1 ∨ low ≠ 0)) ∨
    (top = 0 ∧ op ∈ [0x23, 0x24] ∧ (form ≠ 3 ∨ low ≠ 1)) ∨
    (top = 0 ∧ op ∈ [0x25, 0x26] ∧ (form ≠ 3 ∨ low ≠ 0xFFFF)) ∨
    (top = 0 ∧ op = 0x27 ∧ dst ≠ 0x1B) ∨ (top = 0 ∧ op = 0x36 ∧ dst ≠ 0) ∨
    (top = 3 ∧ branch = 2 ∧ w.extractLsb' 22 3 ≠ 0#3) ∨ (top = 3 ∧ branch = 4 ∧ w.extractLsb' 21 4 ≠ 0#4) ∨
    (top = 3 ∧ branch = 5 ∧ (w.extractLsb' 21 5 ≠ 0#5 ∨ w.extractLsb' 5 11 ≠ 1#11)) ∨
    (top = 3 ∧ branch = 6 ∧ ((w.extractLsb' 21 5).toNat ∉ [0, 4] ∨ low ≠ 0)) ∨
    (top = 3 ∧ (w.extractLsb' 24 5).toNat = 6 ∧ w.extractLsb' 0 24 ≠ 0#24) ∨
    (6 ≤ top ∧ (w.extractLsb' 25 5).toNat ∈ [0, 1, 4, 5, 10, 11, 12, 13, 17, 18, 19] ∧ w.extractLsb' 19 3 ≠ 0#3) ∨
    (6 ≤ top ∧ (w.extractLsb' 25 5).toNat ∈ [2, 3] ∧ w.extractLsb' 16 3 ≠ 0#3) →
    ∀ i, decode w ≠ .ok i) ∧
  (∀ (s : State) (w : Word) (s1 : State), let s0 := sampleInputs s
    s0.waiting = none → s0.takeable = none → (s0.pend = none ∨ s0.atRepeatEnd = false) → s0.rpts = .off →
    s0.pc.toNat ∉ s0.stored → memRead s0.pc s0 = .ok (w, s1) → (∀ i, decode w ≠ .ok i) →
    step s = .refused .illegalWord)

/-! ## The machine as a whole -/

/-- A step whose CPU does not wait and can take no interrupt fetches the word at `pc` into IR and runs the
instruction it decodes to; under RPTS the first fetch starts the loop, and the later ones take IR as it is
(R351, R39). Before it, the step samples its inputs. The address fetched is from then on one of the program, and one
that the run has stored to is refused (R75; log 12). -/
def Obligations.StepRunsTheDecodedInstruction : Prop :=
  ∀ (s : State) (i : Instr), let s0 := sampleInputs s
    let fetched (s1 : State) (w : Word) : State := { s1 with ir := w, ran := noteAddr s0.pc.toNat s0.ran }
    s0.waiting = none → s0.takeable = none → (s0.pend = none ∨ s0.atRepeatEnd = false) →
    (s0.pc.toNat ∉ s0.stored → ∀ w s1, memRead s0.pc s0 = .ok (w, s1) → decode w = .ok i →
      (s0.rpts = .off → step s = exec i (fetched s1 w)) ∧
      (s0.rpts = .armed → step s = exec i { fetched s1 w with rpts := .looping })) ∧
    (s0.rpts = .looping → decode s0.ir = .ok i → step s = exec i s0) ∧
    (s0.pc.toNat ∈ s0.stored → s0.rpts ≠ .looping → step s = .refused .storedInstruction)

/-- The model's state after reset: no delayed branch is pending (R501), and there is no interrupt source (R476's
default); every other value is the model's choice (log 3, 4, 5, 6, 33, 35). -/
def Obligations.StateAfterReset : Prop :=
  State.reset.pend = none ∧ State.reset.sources = [] ∧ State.reset.waiting = none ∧ State.reset.rpts = .off ∧
  State.reset.pc = 0#24 ∧ (∀ r, State.reset.contents r = 0#40) ∧ State.reset.mem = [] ∧ State.reset.ran = [] ∧
  State.reset.stored = [] ∧ State.reset.clock = .normal ∧ State.reset.xf0 = true ∧ State.reset.lock = false ∧
  State.reset.iack = true

/-- The invariant holds after reset. -/
def Obligations.ResetMeetsTheInvariant : Prop := Inv State.reset

/-- Every step keeps the invariant: canonical memory, OVM = 0 (R34), the IACK line inactive between instructions
(R370), no address that was executed stored to (R75), XF0 = 0 while the interlock is held (R412), a repeated instruction
outside delay slots at RE with RM = 1 (R356, R377), and waits only where they may stand, those for an interrupt with
GIE = 1 (R371), interlocked loads and SIGI with XF0 = 0 and interlocked stores with XF0 = 1 (R403, R407, R409). -/
def Obligations.EveryStepKeepsTheInvariant : Prop := ∀ s t : State, Inv s → step s = .next t → Inv t

/-- The program is fixed for the whole run (R75): a store to it is refused, no step changes a word of it, and the
instruction that RPTS repeats comes from IR; what executes belongs to it (log 12).
No step changes a parameter, IE, IF or IOF (R41); of an interrupt source no step changes the vector, only inputs change
the enable, and only they set the pending bit (R476).
Other agents change no register, no word of internal memory, which is private, no word of the program, and, while the
program holds the interlock, no word that it protects (R73, R487; log 11, and log 50 on which words these are). -/
def Obligations.WhatNoStepChanges : Prop :=
  (∀ (a : Addr) (v : Word) (s : State), s.kindAt a ≠ .unmapped → s.inProgram a = true →
    memWrite a v s = .error .storeToProgram) ∧
  (∀ (s t : State) (a : Addr), step s = .next t → s.inProgram a = true →
    t.mem.read a.toNat = s.mem.read a.toNat ∧ t.inProgram a = true) ∧
  (∀ s : State, s.rpts = .looping → fetch s = .ok s) ∧
  (∀ s t : State, step s = .next t →
     t.params = s.params ∧ t.ie = s.ie ∧ t.ifr = s.ifr ∧ t.iof = s.iof ∧
     (∀ k : Nat, (∀ x, (sampleInputs s).sources[k]? = some x → ∃ y, t.sources[k]? = some y ∧ y.vector = x.vector ∧
       y.enabled = x.enabled ∧ (y.pending = true → x.pending = true)) ∧
       ((sampleInputs s).sources[k]? = none → t.sources[k]? = none)) ∧
     ((sampleInputs s).waiting = none → (sampleInputs s).takeable = none → t.sources = (sampleInputs s).sources)) ∧
  (∀ s t : State, t = sampleInputs s ∨ t = agentsAct s →
     (∀ r, t.contents r = s.contents r) ∧ t.pc = s.pc ∧ t.st = s.st ∧ t.waiting = s.waiting ∧ t.pend = s.pend ∧
     t.lock = s.lock ∧
     (∀ a : Addr, s.kindAt a = .internalRam ∨ s.inProgram a = true ∨ s.locked a = true →
       t.mem.read a.toNat = s.mem.read a.toNat)) ∧
  (∀ (s : State) (a : Addr), s.locked a = true ↔
     s.lock = true ∧ ∃ e ∈ s.params.lockedData, e.base ≤ a.toNat ∧ a.toNat < e.base + e.size) ∧
  (∀ a : Addr, ∃ e ∈ State.reset.params.lockedData, e.base ≤ a.toNat ∧ a.toNat < e.base + e.size)

/-! ## Frames: what an instruction leaves as it was -/

/-- An instruction changes no register but its destinations and the auxiliary registers that its operands modify
(`mayWrite`: SP for the stack, RS, RE and RC for the repeats, ARn for DBcond); RC changes too at the end of a
repeated block (R376), which needs RM = 1 or a write of ST. The status register is in the flag statement. -/
def Obligations.RegisterFrame : Prop :=
  ∀ (i : Instr) (s t : State) (r : Reg), exec i s = .next t → r ≠ .st → mayWrite i r = false →
    (r = .rc → s.st.rm = false ∧ mayWrite i .st = false) → t.contents r = s.contents r

/-- An instruction changes no flag but those of its row of the table of R174, under the condition of its last
column, whatever the table is; it changes no other bit of ST, unless ST is its destination, but GIE for TRAPcond and
RETIcond, and RM for RPTB and RPTS and at the end of a repeated block (R33, R35, R174).
LV and LUF are latched: with the default table (log 28) no instruction clears them unless it writes ST as a register,
and one that sets V or UF sets the latch with it (R172; an interlocked load that waits has written no flag yet). -/
def Obligations.FlagFrameAndLatches : Prop :=
  (∀ (i : Instr) (s t : State), exec i s = .next t →
     (∀ f, mayWriteFlag s.params.flagPolicy i f = false → t.st.flag f = s.st.flag f) ∧
     (mayWrite i .st = false →
       t.st.ovm = s.st.ovm ∧ t.st.cf = s.st.cf ∧ t.st.ce = s.st.ce ∧ t.st.cc = s.st.cc ∧
       (t.st.gie = s.st.gie ∨ (∃ c n, i = .trapcond c n ∧ t.st.gie = false) ∨ (∃ c, i = .reticond c ∧ t.st.gie = true)) ∧
       (t.st.rm = s.st.rm ∨ (∃ a, i = .rptb a) ∨ (∃ x, i = .rpts x) ∨ s.atRepeatEnd = true ∨ mayWrite i .re = true))) ∧
  (∀ (i : Instr) (s t : State), exec i s = .next t → mayWrite i .st = false → s.params.flagPolicy = defaultFlagPolicy →
     (s.st.lv = true → t.st.lv = true) ∧ (s.st.luf = true → t.st.luf = true) ∧
     (t.waiting = none → mayWriteFlag s.params.flagPolicy i .v = true → t.st.v = true → t.st.lv = true) ∧
     (t.waiting = none → mayWriteFlag s.params.flagPolicy i .uf = true → t.st.uf = true → t.st.luf = true))

/-- The flags of a result by the default table of R174 (log 28), which the state after reset has: for each class, C, V,
Z, N, UF, LV and LUF after an integer result x with C' = c and V' = v, or a float result p with V' = v and UF' = u
(R170 to R174). -/
def Obligations.FlagsOfResults : Prop :=
  State.reset.params.flagPolicy = defaultFlagPolicy ∧
  (∀ (s : State) (x : Word) (c : Option Bool) (v : Bool), s.params.flagPolicy = defaultFlagPolicy →
    let st := s.st
    let z := decide (x = 0#32)
    let carry := c.getD st.c
    let overflowing : Status := { st with v := v, z := z, n := x.msb, uf := false, lv := st.lv || v }
    let plain : Status := { st with v := false, z := z, n := x.msb, uf := false }
    (∀ k, k = .cmpInt ∨ k = .arithInt ∨ k = .shift → (s.integerFlags k x c v).st = { overflowing with c := carry }) ∧
    (∀ k, k = .absInt ∨ k = .mulInt ∨ k = .fix → (s.integerFlags k x c v).st = overflowing) ∧
    (∀ k, k = .test ∨ k = .logic ∨ k = .loadInt → (s.integerFlags k x c v).st = plain) ∧
    (s.integerFlags .rot x c v).st = { plain with c := carry }) ∧
  (∀ (s : State) (p : Ext) (v u : Bool), s.params.flagPolicy = defaultFlagPolicy →
    let st := s.st
    let z := decide (valF p = 0)
    let n := decide (valF p < 0)
    (∀ k, k = .cmpFlt ∨ k = .arithFlt → (s.floatFlags k p v u).st =
      { st with v := v, z := z, n := n, uf := u, lv := st.lv || v, luf := st.luf || u }) ∧
    (s.floatFlags .loadFlt p v u).st = { st with v := false, z := z, n := n, uf := false }) ∧
  (∀ (s : State) (v u z n : Bool), s.params.flagPolicy = defaultFlagPolicy →
    (s.pairFlags v u z n).st =
      { s.st with v := v, z := false, n := false, uf := u, lv := s.st.lv || v, luf := s.st.luf || u })

/-- Every word of memory reads as before but those at the addresses the instruction stores to, computed with the
meaning's own address functions: `ea` of a store's operand, `indirect` of a parallel store's, SP + 1 of a push
(R65, R68), and those that other agents write between the two accesses of the instruction (R69; log 38). An
instruction with no such address leaves all of memory as it was. -/
def Obligations.MemoryFrame : Prop :=
  ∀ (i : Instr) (s t : State) (a : Addr), exec i s = .next t → a ∉ storeAddresses i s → (∀ v, (a, v) ∉ s.between) →
    t.mem.read a.toNat = s.mem.read a.toNat

/-- The rest of the state: the inputs, IR, the sources, the parameters and the IACK level always stay (an IACK
instruction leaves its line high); XF0 stays unless the instruction is interlocked; the clock unless it is LOPOWER or
MAXSPEED; the interlock is acquired only by an LDFI or LDII with XF1 = 0, and given back only by STFI, STII and SIGI
(R76, R412); and no instruction but LDFI, LDII, STFI, STII, SIGI, IDLE, IDLE2 waits (R13, R38, R42). The history of XF0
and of the IACK line only grows, and only through IACK and the interlocked instructions (R525). What other agents write
inside the instruction is used up by it or stays (log 38). -/
def Obligations.OtherStateFrame : Prop :=
  ∀ (i : Instr) (s t : State), exec i s = .next t →
    (t.xf1 = s.xf1 ∧ t.rdyInt = s.rdyInt ∧ t.xrdyInt = s.xrdyInt ∧ t.env = s.env ∧ t.ir = s.ir ∧ t.params = s.params ∧
      t.sources = s.sources ∧ t.ran = s.ran ∧ (∀ n ∈ s.stored, n ∈ t.stored) ∧ s.draws ≤ t.draws) ∧
    (t.between = s.between ∨ t.between = []) ∧
    (t.iack = s.iack ∨ (∃ m, i = .iack m) ∧ t.iack = true) ∧
    (t.xf0 = s.xf0 ∨ (∃ m n, i = .ldfi m n) ∨ (∃ m r, i = .ldii m r) ∨ (∃ n m, i = .stfi n m) ∨
      (∃ r m, i = .stii r m) ∨ i = .sigi) ∧
    (t.lock = s.lock ∨ (((∃ m n, i = .ldfi m n) ∨ (∃ m r, i = .ldii m r)) ∧ s.xf1 = false ∧ t.lock = true) ∨
      (((∃ n m, i = .stfi n m) ∨ (∃ r m, i = .stii r m) ∨ i = .sigi) ∧ t.lock = false)) ∧
    ((∃ l, t.trace = l ++ s.trace) ∧ (t.trace = s.trace ∨ (∃ m, i = .iack m) ∨ (∃ m n, i = .ldfi m n) ∨
      (∃ m r, i = .ldii m r) ∨ (∃ n m, i = .stfi n m) ∨ (∃ r m, i = .stii r m) ∨ i = .sigi)) ∧
    (t.clock = s.clock ∨ i = .lopower ∨ i = .maxspeed) ∧
    (s.waiting = none → t.waiting = none ∨ (∃ m n, i = .ldfi m n) ∨ (∃ m r, i = .ldii m r) ∨
      (∃ n m, i = .stfi n m) ∨ (∃ r m, i = .stii r m) ∨ i = .sigi ∨ i = .idle ∨ i = .idle2)

/-! ## Memory -/

/-- A read gives the word last written there, a write changes no other word, no register and keeps the canonical form
(R64, R65, R73).
An access to an unmapped address is refused (R62); a read of a peripheral is a free word, a new one each time
(R64; log 15). A read of external memory gives the word that another agent wrote there last, outside the program and
what the interlock protects (R73). -/
def Obligations.MemoryAccesses : Prop :=
  (∀ (s : State) (a : Addr) (v : Word), s.writable a →
     ∃ t, memWrite a v s = .ok t ∧ (s.kindAt a ≠ .peripheral → memRead a t = .ok (v, t)) ∧
       (∀ b : Addr, b ≠ a → t.mem.read b.toNat = s.mem.read b.toNat) ∧ (∀ r, t.contents r = s.contents r) ∧
       t.pc = s.pc ∧ (s.mem.wf = true → t.mem.wf = true)) ∧
  (∀ (s : State) (a : Addr) (v : Word), s.kindAt a = .unmapped →
    memRead a s = .error (.unmapped a) ∧ memWrite a v s = .error (.unmapped a)) ∧
  (∀ (s : State) (a : Addr), s.kindAt a = .peripheral →
    memRead a s = .ok (Config.freeWord s.draws, { s with draws := s.draws + 1 })) ∧
  (∀ (s : State) (a : Addr) (v : Word),
    s.kindAt a = .externalStrb ∨ s.kindAt a = .externalMstrb ∨ s.kindAt a = .externalIostrb →
    s.inProgram a = false → s.locked a = false →
    memRead a (outsideWrites [(a, v)] s) = .ok (v, outsideWrites [(a, v)] s)) ∧
  (∀ (s : State) (m : MemOp) (dst : Rn) (a : Addr) (s1 : State), ea m s = .ok (a, s1) → s.kindAt a = .unmapped →
    exec (.ldf (.mem m) dst) s = .refused (.unmapped a) ∧ exec (.stf dst m) s = .refused (.unmapped a))

/-! ## Addresses -/

/-- The direct address: its 8 MSBs are the 8 LSBs of DP, its 16 LSBs are in the instruction; nothing changes
(R192). -/
def Obligations.DirectAddress : Prop :=
  ∀ (k : BitVec 16) (s : State), ∃ a : Addr, ea (.dir k) s = .ok (a, s) ∧ a.toNat = s.dp.toNat % 256 * 65536 + k.toNat

/-- The displacement d of an indirect operand (R194): `disp` zero-extended, IR0 or IR1.
The forms of Tabla 3-3, for every displacement and both widths of the ARAU: the address is the 24 LSBs of ARn, or of
ARn plus or minus d for the pre-forms, and a form that modifies ARn leaves in it the low bits of the sum, of the
circular sum with BK (refused where that is), or of the reverse-carry sum with IR0 (R199 to R207, R210, R214). -/
def Obligations.IndirectForms : Prop :=
  (∀ (s : State) (k : BitVec 8), (dispValue (.disp k) s).toNat = k.toNat ∧ dispValue .ir0 s = s.ir0 ∧
     dispValue .ir1 s = s.ir1) ∧
  (∀ (s : State) (n : ARn) (d : Disp),
    let a := s.arn n
    let k := dispValue d s
    let keep (x : Word) : Word := if s.params.arauWidth = .w32 then x else (a &&& 0xFF000000#32) ||| (x &&& 0x00FFFFFF#32)
    indirect (.plain n) s = .ok (a.setWidth 24, s) ∧
    indirect (.indexed .preAdd d n) s = .ok ((a + k).setWidth 24, s) ∧
    indirect (.indexed .preSub d n) s = .ok ((a - k).setWidth 24, s) ∧
    indirect (.indexed .preAddMod d n) s = .ok ((a + k).setWidth 24, s.setAr n (keep (a + k))) ∧
    indirect (.indexed .preSubMod d n) s = .ok ((a - k).setWidth 24, s.setAr n (keep (a - k))) ∧
    indirect (.indexed .postAdd d n) s = .ok (a.setWidth 24, s.setAr n (keep (a + k))) ∧
    indirect (.indexed .postSub d n) s = .ok (a.setWidth 24, s.setAr n (keep (a - k))) ∧
    (∀ v, circular s.bk a k false = .ok v →
      indirect (.indexed .postAddCirc d n) s = .ok (a.setWidth 24, s.setAr n (keep v))) ∧
    (∀ v, circular s.bk a k true = .ok v →
      indirect (.indexed .postSubCirc d n) s = .ok (a.setWidth 24, s.setAr n (keep v))) ∧
    (∀ e, circular s.bk a k false = .error e → indirect (.indexed .postAddCirc d n) s = .error e) ∧
    (∀ e, circular s.bk a k true = .error e → indirect (.indexed .postSubCirc d n) s = .error e) ∧
    indirect (.bitrev n) s = .ok (a.setWidth 24, s.setAr n (rcadd s.params.arauWidth a s.ir0)))

/-- Circular addressing keeps the pointer inside its table: with the index below BK and the step at most BK, the
new index is the old one plus or minus the step modulo BK, and the base (the bits above the highest 1 of BK) stays;
otherwise the update is refused (R206 to R209; log 47).
Reverse-carry addition (R215): the carry moves to less significant bits only, so bits above the most
significant 1 of the increment never change; bit i of the sum in reversed order is that of an ordinary sum; and the
width does not matter while both operands fit in it. -/
def Obligations.CircularAndReverseCarrySums : Prop :=
  (∀ (bk a d : Word), let span := 2 ^ (Nat.log2 bk.toNat + 1)
    (0 < bk.toNat ∧ a.toNat % span < bk.toNat ∧ d.toNat ≤ bk.toNat →
      (∃ v, circular bk a d false = .ok v ∧ v.toNat / span = a.toNat / span ∧
        v.toNat % span = (a.toNat % span + d.toNat) % bk.toNat) ∧
      (∃ v, circular bk a d true = .ok v ∧ v.toNat / span = a.toNat / span ∧
        v.toNat % span = (a.toNat % span + bk.toNat - d.toNat) % bk.toNat)) ∧
    (¬(0 < bk.toNat ∧ a.toNat % span < bk.toNat ∧ d.toNat ≤ bk.toNat) →
      ∀ down, circular bk a d down = .error .circularBounds)) ∧
  ((∀ (w : ArauWidth) (a b : Word) (m j : Nat), b.toNat < 2 ^ m → m ≤ j → (rcadd w a b).getLsbD j = a.getLsbD j) ∧
  (∀ (a b : Word), (rcadd .w32 a b).reverse = a.reverse + b.reverse) ∧
  (∀ (a b : Word), a.toNat < 2 ^ 24 → b.toNat < 2 ^ 24 → rcadd .w24 a b = rcadd .w32 a b))

/-- The values of operands (R224, R225, R262, R428): a register gives its 32 bits, or its 40 as a float (R23); a memory
operand the word at its address, widened for a float (R152); an immediate 16 bits extended as the instruction says
(R100), or a short float (R151). Registers are read as they were before the instruction; two memory operands are read
in order, each after its own address update. Other agents may act after the first access of an instruction that can
make two (R69; log 38). -/
def Obligations.OperandValues : Prop :=
  (∀ (s : State) (e : ImmExt),
    (∀ r, namedReg r = true → srcInt e (.reg r) s = .ok ((s.contents r).setWidth 32, s)) ∧
    (∀ m a s1 w s2, ea m s = .ok (a, s1) → memRead a s1 = .ok (w, s2) → srcInt e (.mem m) s = .ok (w, s2)) ∧
    (∀ k, srcInt .signed (.imm k) s = .ok (k.signExtend 32, s) ∧ srcInt .unsigned (.imm k) s = .ok (k.setWidth 32, s))) ∧
  (∀ s : State,
    (∀ n, srcFlt (.reg n) s = .ok (s.rn n, s)) ∧
    (∀ m a s1 w s2, ea m s = .ok (a, s1) → memRead a s1 = .ok (w, s2) → srcFlt (.mem m) s = .ok (w ++ 0#8, s2)) ∧
    (∀ k : BitVec 16, srcFlt (.imm k) s =
      .ok (if k.extractLsb' 12 4 = 8#4 then 0x8000000000#40
           else (k.extractLsb' 12 4).signExtend 8 ++ k.extractLsb' 0 12 ++ 0#20, s))) ∧
  (∀ (s s1 s2 : State) (i : Indirect) (a : Addr) (v : Word), indirect i s = .ok (a, s1) → memRead a s1 = .ok (v, s2) →
    (∀ r, namedReg r = true →
      both3Int (.reg r) (.ind i) s = .ok ((s.contents r).setWidth 32, v, agentsAct s2) ∧
      both3Int (.ind i) (.reg r) s = .ok (v, (s.contents r).setWidth 32, agentsAct s2)) ∧
    (∀ n, both3Flt (.reg n) (.ind i) s = .ok (s.rn n, v ++ 0#8, agentsAct s2) ∧
      both3Flt (.ind i) (.reg n) s = .ok (v ++ 0#8, s.rn n, agentsAct s2)) ∧
    (∀ (j : Indirect) (b : Addr) (w : Word) (s3 s4 : State), clash i j = false → indirect j (agentsAct s2) = .ok (b, s3) →
      memRead b s3 = .ok (w, s4) →
      both3Int (.ind i) (.ind j) s = .ok (v, w, agentsAct s4) ∧
      both3Flt (.ind i) (.ind j) s = .ok (v ++ 0#8, w ++ 0#8, agentsAct s4) ∧
      ∀ p : MulPair, pairIndirects p = [i, j] → let ops := [p.op1, p.op2, p.op4, p.op5]
        (∀ x1 x2 x4 x5, pairValues (fun n => (s.rn n).setWidth 32) ops [v, w] = [x1, x2, x4, x5] →
          mulPairInt p s = .ok (x1, x2, x4, x5, agentsAct s4)) ∧
        (∀ x1 x2 x4 x5, pairValues s.rn ops [v ++ 0#8, w ++ 0#8] = [x1, x2, x4, x5] →
          mulPairFlt p s = .ok (x1, x2, x4, x5, agentsAct s4)))) ∧
  (∀ (s : State) (r q : Reg) (n m : Rn),
    (namedReg r = true → namedReg q = true →
      both3Int (.reg r) (.reg q) s = .ok ((s.contents r).setWidth 32, (s.contents q).setWidth 32, s)) ∧
    both3Flt (.reg n) (.reg m) s = .ok (s.rn n, s.rn m, s))

/-- One auxiliary register used twice is refused, in every instruction (R211): through two indirect operands, at least
one of which modifies it, or as a destination that an indirect operand modifies.
An instruction that names IE, IF or IOF as an operand is refused (R41), and so are two parallel loads into one register
(R424).
The write of a word into ST that has the OVM bit is refused (R34), in `writeInt`, by which every integer result reaches
ST, and so in LDI, LDIcond, POP and OR; and no instruction that completes has set OVM. -/
def Obligations.RefusedOperands : Prop :=
  (∀ (i : Instr) (s : State) (x y : Indirect), indirects i = [x, y] → clash x y = true →
    exec i s = .refused .auxUsedTwice ∨ exec i s = .refused .auxAlsoDestination ∨ exec i s = .refused .sameLoadRegister) ∧
  (∀ (i : Instr) (s : State) (x : Indirect) (n : ARn), x ∈ indirects i → clobbers x (.ar n) = true →
    .ar n ∈ destinations i → exec i s = .refused .auxAlsoDestination) ∧
  (∀ (i : Instr) (s : State) (r : Reg), r ∈ operandRegs i → namedReg r = false → ∃ e, exec i s = .refused e) ∧
  (∀ (s : State) (r : Reg), namedReg r = false →
    exec (.push r) s = .refused .unnamedRegister ∧ exec (.rol r) s = .refused .unnamedRegister ∧
    ∀ dst, exec (.ldi (.reg r) dst) s = .refused .unnamedRegister) ∧
  (∀ (s : State) (p : LoadPair), p.dst1 = p.dst2 →
    exec (.ldfLdf p) s = .refused .sameLoadRegister ∧ exec (.ldiLdi p) s = .refused .sameLoadRegister) ∧
  (∀ (s s1 : State) (x : Src) (v : Word), srcInt .signed x s = .ok (v, s1) → v.getLsbD s.params.stLayout.ovm.val = true →
    exec (.ldi x .st) s = .refused .overflowModeSet ∧
    ∀ c, condTrue c s.st = true → exec (.ldicond c x .st) s = .refused .overflowModeSet) ∧
  (∀ (s s1 : State) (v : Word), memRead (low24 s.sp) s = .ok (v, s1) → v.getLsbD s.params.stLayout.ovm.val = true →
    exec (.pop .st) s = .refused .overflowModeSet) ∧
  (∀ (s s1 : State) (x : Src) (d v : Word), readInt .st s = .ok d → srcInt .unsigned x s = .ok (v, s1) →
    (d ||| v).getLsbD s.params.stLayout.ovm.val = true → exec (.or x .st) s = .refused .overflowModeSet) ∧
  (∀ (s : State) (v : Word), v.getLsbD s.params.stLayout.ovm.val = true →
    writeInt .st v s = .error .overflowModeSet ∧
    ∀ k c o, s.integerWrite k .st v c o = .error .overflowModeSet) ∧
  (∀ (i : Instr) (s t : State), s.st.ovm = false → exec i s = .next t → t.st.ovm = false)

/-! ## Registers -/

/-- An integer written to a register is read back; R0 to R7 keep bits 39 to 32; no other register changes
(R21, R23, R245; log 30). ST keeps the bits of its layout.
ST as a word, with the layout that the state after reset has: bit 0 C, 1 V, 2 Z, 3 N, 4 UF, 5 LV, 6 LUF, 7 OVM, 8 RM,
10 CF, 11 CE, 12 CC, 13 GIE, and the others 0 (R31; log 29, the layout is general knowledge). -/
def Obligations.RegistersAndStatusLayout : Prop :=
  (∀ (r : Reg) (v : Word) (s t : State), writeInt r v s = .ok t →
     (r ≠ .st → readInt r t = .ok v) ∧ (r = .st → t.st = Status.ofWord s.params.stLayout v) ∧
     (∀ q, q ≠ r → t.contents q = s.contents q) ∧
     (∀ n, r = .r n → (t.rn n).extractLsb' 32 8 = (s.rn n).extractLsb' 32 8)) ∧
  State.reset.params.stLayout = defaultStLayout ∧
  (∀ v : Word, (Status.ofWord defaultStLayout v).toWord defaultStLayout = v &&& 0x3DFF#32) ∧
  (∀ st : Status, Status.ofWord defaultStLayout (st.toWord defaultStLayout) = st ∧
     (st.toWord defaultStLayout).toNat = st.c.toNat + 2 * st.v.toNat + 4 * st.z.toNat + 8 * st.n.toNat +
       16 * st.uf.toNat + 32 * st.lv.toNat + 64 * st.luf.toNat + 128 * st.ovm.toNat + 256 * st.rm.toNat +
       1024 * st.cf.toNat + 2048 * st.ce.toNat + 4096 * st.cc.toNat + 8192 * st.gie.toNat)

/-! ## Conditions -/

/-- Tabla 3-13 (R175): the test of each condition. -/
def Obligations.ConditionTable : Prop :=
  ∀ st : Status,
    condTrue .u st = true ∧ (condTrue .lo st = true ↔ st.c = true) ∧
    (condTrue .ls st = true ↔ st.c = true ∨ st.z = true) ∧ (condTrue .hi st = true ↔ st.c = false ∧ st.z = false) ∧
    (condTrue .hs st = true ↔ st.c = false) ∧ (condTrue .eq st = true ↔ st.z = true) ∧
    (condTrue .ne st = true ↔ st.z = false) ∧ (condTrue .lt st = true ↔ st.n = true) ∧
    (condTrue .le st = true ↔ st.n = true ∨ st.z = true) ∧ (condTrue .gt st = true ↔ st.n = false ∧ st.z = false) ∧
    (condTrue .ge st = true ↔ st.n = false) ∧ (condTrue .nv st = true ↔ st.v = false) ∧
    (condTrue .v st = true ↔ st.v = true) ∧ (condTrue .nuf st = true ↔ st.uf = false) ∧
    (condTrue .uf st = true ↔ st.uf = true) ∧ (condTrue .nlv st = true ↔ st.lv = false) ∧
    (condTrue .lv st = true ↔ st.lv = true) ∧ (condTrue .nluf st = true ↔ st.luf = false) ∧
    (condTrue .luf st = true ↔ st.luf = true) ∧ (condTrue .zuf st = true ↔ st.z = true ∨ st.uf = true)

/-- After CMPI the conditions compare Dreg with src: LO, LS, HI, HS as unsigned numbers, EQ and NE, and, when the
subtraction does not overflow, LT, LE, GT, GE as signed ones (R176); with the default flag table (log 28), and also
where Dreg is the ARn that the operand modifies, which is read before (log 41). -/
def Obligations.ConditionsAfterComparison : Prop :=
  ∀ (s s1 : State) (src : Src) (dst : Reg) (a b : Word), readInt dst s = .ok a → srcInt .signed src s = .ok (b, s1) →
    s.params.flagPolicy = defaultFlagPolicy →
    ∃ t, exec (.cmpi src dst) s = .next t ∧
      condTrue .lo t.st = decide (a.toNat < b.toNat) ∧ condTrue .ls t.st = decide (a.toNat ≤ b.toNat) ∧
      condTrue .hi t.st = decide (b.toNat < a.toNat) ∧ condTrue .hs t.st = decide (b.toNat ≤ a.toNat) ∧
      condTrue .eq t.st = decide (a = b) ∧ condTrue .ne t.st = decide (a ≠ b) ∧
      (overflows (a.toInt - b.toInt) = false →
        condTrue .lt t.st = decide (a.toInt < b.toInt) ∧ condTrue .le t.st = decide (a.toInt ≤ b.toInt) ∧
        condTrue .gt t.st = decide (b.toInt < a.toInt) ∧ condTrue .ge t.st = decide (b.toInt ≤ a.toInt))

/-! ## Integer arithmetic, logic and shifts -/

/-- ADDI, ADDC, SUBI, SUBB, SUBRI, SUBRB complete for every readable source and every destination register: the
word, the carry or borrow, the signed overflow, and the flags of class ARITH_INT (R160, R260, R267, R271, R290, R299,
R301, R303; the flags of a class are in `FlagsOfResults`). -/
def Obligations.AddAndSubtract : Prop :=
  ∀ (s s1 u : State) (src : Src) (dst : Reg) (d v : Word),
    srcClobbers src dst = false → readInt dst s = .ok d → srcInt .signed src s = .ok (v, s1) →
    let k := s.st.c.toNat
    (s1.integerWrite .arithInt dst (v + d) (some (decide (2 ^ 32 ≤ v.toNat + d.toNat))) (overflows (v.toInt + d.toInt)) = .ok u →
      exec (.addi src dst) s = .next (sequential u)) ∧
    (s1.integerWrite .arithInt dst (v + d + BitVec.ofNat 32 k) (some (decide (2 ^ 32 ≤ v.toNat + d.toNat + k)))
        (overflows (v.toInt + d.toInt + k)) = .ok u → exec (.addc src dst) s = .next (sequential u)) ∧
    (s1.integerWrite .arithInt dst (d - v) (some (decide (d.toNat < v.toNat))) (overflows (d.toInt - v.toInt)) = .ok u →
      exec (.subi src dst) s = .next (sequential u)) ∧
    (s1.integerWrite .arithInt dst (d - v - BitVec.ofNat 32 k) (some (decide (d.toNat < v.toNat + k)))
        (overflows (d.toInt - v.toInt - k)) = .ok u → exec (.subb src dst) s = .next (sequential u)) ∧
    (s1.integerWrite .arithInt dst (v - d) (some (decide (v.toNat < d.toNat))) (overflows (v.toInt - d.toInt)) = .ok u →
      exec (.subri src dst) s = .next (sequential u)) ∧
    (s1.integerWrite .arithInt dst (v - d - BitVec.ofNat 32 k) (some (decide (v.toNat < d.toNat + k)))
        (overflows (v.toInt - d.toInt - k)) = .ok u → exec (.subrb src dst) s = .next (sequential u))

/-- NEGI, NEGB, ABSI complete for every readable source and every destination (R266, R281, R283).
SUBC, one step of an unsigned division, for every destination; it writes no flag (R296, D18). -/
def Obligations.NegateAbsoluteAndDivisionStep : Prop :=
  (∀ (s s1 u : State) (src : Src) (dst : Reg) (v : Word),
     srcClobbers src dst = false → srcInt .signed src s = .ok (v, s1) →
     let k := s.st.c.toNat
     (s1.integerWrite .arithInt dst (-v) (some (decide (v ≠ 0#32))) (overflows (-v.toInt)) = .ok u →
       exec (.negi src dst) s = .next (sequential u)) ∧
     (s1.integerWrite .arithInt dst (-v - BitVec.ofNat 32 k) (some (decide (v.toNat + k ≠ 0))) (overflows (-v.toInt - k)) = .ok u →
       exec (.negb src dst) s = .next (sequential u)) ∧
     (s1.integerWrite .absInt dst (if v.msb then -v else v) none (decide (v = 0x80000000#32)) = .ok u →
       exec (.absi src dst) s = .next (sequential u))) ∧
  (∀ (s s1 u : State) (src : Src) (dst : Reg) (d v : Word),
     srcClobbers src dst = false → readInt dst s = .ok d → srcInt .signed src s = .ok (v, s1) →
     (v.toNat ≤ d.toNat → writeInt dst (((d - v) <<< 1) ^^^ 1#32) s1 = .ok u → exec (.subc src dst) s = .next (sequential u)) ∧
     (d.toNat < v.toNat → writeInt dst (d <<< 1) s1 = .ok u → exec (.subc src dst) s = .next (sequential u)))

/-- CMPI and CMPI3 write the flags of the difference, TSTB and TSTB3 those of the AND, whatever the registers
(R275, R276, R320, R321); also where Dreg is the ARn that the operand modifies, which is read before (log 41). -/
def Obligations.CompareAndTest : Prop :=
  (∀ (s s1 : State) (src : Src) (dst : Reg) (a b : Word), readInt dst s = .ok a → srcInt .signed src s = .ok (b, s1) →
    exec (.cmpi src dst) s =
      .next (sequential (s1.integerFlags .cmpInt (a - b) (some (decide (a.toNat < b.toNat))) (overflows (a.toInt - b.toInt))))) ∧
  (∀ (s s1 : State) (src : Src) (dst : Reg) (a b : Word), readInt dst s = .ok a → srcInt .unsigned src s = .ok (b, s1) →
    exec (.tstb src dst) s = .next (sequential (s1.integerFlags .test (a &&& b) none false))) ∧
  (∀ (s s1 : State) (x y : Src3) (a b : Word), both3Int x y s = .ok (a, b, s1) →
    exec (.cmpi3 x y) s =
      .next (sequential (s1.integerFlags .cmpInt (a - b) (some (decide (a.toNat < b.toNat))) (overflows (a.toInt - b.toInt)))) ∧
    exec (.tstb3 x y) s = .next (sequential (s1.integerFlags .test (a &&& b) none false)))

/-- MPYI and MPYI3: the product when both operands are in -2^23 to 2^23 - 1, else a free word and a free V
(R161, R279, R280; log 22). -/
def Obligations.MultiplyIntegers : Prop :=
  (∀ (s s1 u : State) (src : Src) (dst : Reg) (d v : Word),
    srcClobbers src dst = false → readInt dst s = .ok d → srcInt .signed src s = .ok (v, s1) →
    let small := -8388608 ≤ v.toInt ∧ v.toInt ≤ 8388607 ∧ -8388608 ≤ d.toInt ∧ d.toInt ≤ 8388607
    (small → s1.integerWrite .mulInt dst (v * d) none (overflows (v.toInt * d.toInt)) = .ok u →
      exec (.mpyi src dst) s = .next (sequential u)) ∧
    (¬small → s1.tick.integerWrite .mulInt dst (Config.freeWord s1.draws) none (Config.freeBit s1.draws) = .ok u →
      exec (.mpyi src dst) s = .next (sequential u))) ∧
  (∀ (s s1 u : State) (x y : Src3) (dst : Reg) (a b : Word),
    src3Clobbers x dst = false → src3Clobbers y dst = false → both3Int x y s = .ok (a, b, s1) →
    let small := -8388608 ≤ a.toInt ∧ a.toInt ≤ 8388607 ∧ -8388608 ≤ b.toInt ∧ b.toInt ≤ 8388607
    (small → s1.integerWrite .mulInt dst (a * b) none (overflows (a.toInt * b.toInt)) = .ok u →
      exec (.mpyi3 x y dst) s = .next (sequential u)) ∧
    (¬small → s1.tick.integerWrite .mulInt dst (Config.freeWord s1.draws) none (Config.freeBit s1.draws) = .ok u →
      exec (.mpyi3 x y dst) s = .next (sequential u)))

/-- AND, ANDN, OR, XOR, NOT: the bitwise result for every destination; an immediate is zero-extended; flags of
class LOGIC (R310, R311, R312, R314, R316, R318; which operand ANDN complements is log 48). -/
def Obligations.BitwiseLogic : Prop :=
  ∀ (s s1 u : State) (src : Src) (dst : Reg) (d v : Word),
    srcClobbers src dst = false → srcInt .unsigned src s = .ok (v, s1) →
    (s1.integerWrite .logic dst (~~~v) none false = .ok u → exec (.not src dst) s = .next (sequential u)) ∧
    (readInt dst s = .ok d →
      (s1.integerWrite .logic dst (d &&& v) none false = .ok u → exec (.and src dst) s = .next (sequential u)) ∧
      (s1.integerWrite .logic dst (d &&& ~~~v) none false = .ok u → exec (.andn src dst) s = .next (sequential u)) ∧
      (s1.integerWrite .logic dst (d ||| v) none false = .ok u → exec (.or src dst) s = .next (sequential u)) ∧
      (s1.integerWrite .logic dst (d ^^^ v) none false = .ok u → exec (.xor src dst) s = .next (sequential u)))

/-- The three-operand integer instructions but the multiply and the shifts (R262, R268, R272, R291, R300, R313,
R315, R317, R319; that ANDN3 complements src2 is log 48). -/
def Obligations.ThreeOperandIntegers : Prop :=
  ∀ (s s1 u : State) (x y : Src3) (dst : Reg) (a b : Word),
    src3Clobbers x dst = false → src3Clobbers y dst = false → both3Int x y s = .ok (a, b, s1) →
    let k := s.st.c.toNat
    (s1.integerWrite .arithInt dst (a + b) (some (decide (2 ^ 32 ≤ a.toNat + b.toNat))) (overflows (a.toInt + b.toInt)) = .ok u →
      exec (.addi3 x y dst) s = .next (sequential u)) ∧
    (s1.integerWrite .arithInt dst (a + b + BitVec.ofNat 32 k) (some (decide (2 ^ 32 ≤ a.toNat + b.toNat + k)))
        (overflows (a.toInt + b.toInt + k)) = .ok u → exec (.addc3 x y dst) s = .next (sequential u)) ∧
    (s1.integerWrite .arithInt dst (a - b) (some (decide (a.toNat < b.toNat))) (overflows (a.toInt - b.toInt)) = .ok u →
      exec (.subi3 x y dst) s = .next (sequential u)) ∧
    (s1.integerWrite .arithInt dst (a - b - BitVec.ofNat 32 k) (some (decide (a.toNat < b.toNat + k)))
        (overflows (a.toInt - b.toInt - k)) = .ok u → exec (.subb3 x y dst) s = .next (sequential u)) ∧
    (s1.integerWrite .logic dst (a &&& b) none false = .ok u → exec (.and3 x y dst) s = .next (sequential u)) ∧
    (s1.integerWrite .logic dst (a &&& ~~~b) none false = .ok u → exec (.andn3 x y dst) s = .next (sequential u)) ∧
    (s1.integerWrite .logic dst (a ||| b) none false = .ok u → exec (.or3 x y dst) s = .next (sequential u)) ∧
    (s1.integerWrite .logic dst (a ^^^ b) none false = .ok u → exec (.xor3 x y dst) s = .next (sequential u))

/-- ASH, LSH and their three-operand forms: the count is the low bits of its operand as a signed number, 7 of them after
reset, left when not negative; C is the last bit shifted out; V of an arithmetic left shift says that a bit shifted
out, or the new sign, differs from the old sign (R163, R171, R326 to R330; the count is log 30, C and V are general
knowledge, log 28). -/
def Obligations.Shifts : Prop :=
  State.reset.params.shiftBits = 7 ∧
  (∀ (bits : Nat) (v c : Word), bits ≤ 32 → let n := (c.setWidth bits).toInt
    let left := n.toNat
    let right := (-n).toNat
    let gone := decide (∃ i : Fin 32, 32 ≤ i.val + left ∧ v.getLsbD i.val ≠ v.msb)
    let carryLeft := decide (1 ≤ left ∧ left ≤ 32) && v.getLsbD (32 - left)
    (0 ≤ n → shiftLogical bits v c = ⟨v <<< left, some carryLeft, false⟩ ∧
      shiftArith bits v c = ⟨v <<< left, some carryLeft, gone || ((v <<< left).msb != v.msb)⟩) ∧
    (n < 0 → shiftLogical bits v c = ⟨v >>> right, some (decide (right ≤ 32) && v.getLsbD (right - 1)), false⟩ ∧
      shiftArith bits v c = ⟨v.sshiftRight right, some (if right ≤ 32 then v.getLsbD (right - 1) else v.msb), false⟩)) ∧
  (∀ (s s1 u : State) (src : Src) (dst : Reg) (v c : Word), srcClobbers src dst = false → readInt dst s = .ok v →
    srcInt .signed src s = .ok (c, s1) →
    let l := shiftLogical s.params.shiftBits v c
    let a := shiftArith s.params.shiftBits v c
    (s1.integerWrite .shift dst l.value l.c l.v = .ok u → exec (.lsh src dst) s = .next (sequential u)) ∧
    (s1.integerWrite .shift dst a.value a.c a.v = .ok u → exec (.ash src dst) s = .next (sequential u))) ∧
  (∀ (s s1 u : State) (x y : Src3) (dst : Reg) (v c : Word), src3Clobbers x dst = false → src3Clobbers y dst = false →
    both3Int x y s = .ok (v, c, s1) →
    let l := shiftLogical s.params.shiftBits v c
    let a := shiftArith s.params.shiftBits v c
    (s1.integerWrite .shift dst l.value l.c l.v = .ok u → exec (.lsh3 x y dst) s = .next (sequential u)) ∧
    (s1.integerWrite .shift dst a.value a.c a.v = .ok u → exec (.ash3 x y dst) s = .next (sequential u)))

/-- ROL, ROLC, ROR, RORC: every bit moves one place, the bit that leaves goes to C, and through the carry C enters
at the other end; flags of class ROT (R322 to R325). -/
def Obligations.Rotates : Prop :=
  ∀ (s u : State) (dst : Reg) (v : Word), readInt dst s = .ok v →
    (s.integerWrite .rot dst (v.rotateLeft 1) (some v.msb) false = .ok u → exec (.rol dst) s = .next (sequential u)) ∧
    (s.integerWrite .rot dst (v <<< 1 ||| BitVec.ofNat 32 s.st.c.toNat) (some v.msb) false = .ok u → exec (.rolc dst) s = .next (sequential u)) ∧
    (s.integerWrite .rot dst (v.rotateRight 1) (some (v.getLsbD 0)) false = .ok u → exec (.ror dst) s = .next (sequential u)) ∧
    (s.integerWrite .rot dst (v >>> 1 ||| BitVec.ofNat 32 s.st.c.toNat <<< 31) (some (v.getLsbD 0)) false = .ok u →
      exec (.rorc dst) s = .next (sequential u))

/-! ## Floats -/

/-- The value of every pattern, and that widening keeps it: extended with 31 fraction bits, a memory word with 23,
a short immediate with 11 and lowest exponent -8 (R144 to R148, R151, R152).
Zero is any pattern with exponent -128 and nothing else; the sign of a value that is not zero is bit 31
(R149, R150, R173).
A float store drops the low 8 fraction bits: the stored value is the greatest single-format value that is not above
the register's, and it is the same when those bits are 0 (R153, D27). -/
def Obligations.FloatFormatsZeroAndNarrowing : Prop :=
  (∀ x : Ext, valF x = formatValue (-128) (x.extractLsb' 32 8).toInt (x.getLsbD 31) (x.extractLsb' 0 31).toNat 31) ∧
  (∀ w : Word, valF (widen w) = formatValue (-128) (w.extractLsb' 24 8).toInt (w.getLsbD 23) (w.extractLsb' 0 23).toNat 23) ∧
  (∀ k : BitVec 16,
    valF (widenShort k) = formatValue (-8) (k.extractLsb' 12 4).toInt (k.getLsbD 11) (k.extractLsb' 0 11).toNat 11) ∧
  (∀ x : Ext, (valF x = 0 ↔ x.extractLsb' 32 8 = 0x80#8) ∧ (valF x ≠ 0 → (valF x < 0 ↔ x.getLsbD 31 = true))) ∧
  (∀ x : Ext, valF (widen (narrow x)) ≤ valF x ∧
    (∀ w : Word, valF (widen w) ≤ valF x → valF (widen w) ≤ valF (widen (narrow x))) ∧
    (x.extractLsb' 0 8 = 0#8 → widen (narrow x) = x))

/-- Where the exact result is representable the float operations return it, with V' = 0 and UF' = 0: sum,
difference, product of single-format operands, negation and absolute value (R166 P1 and P4). -/
def Obligations.FloatOperationsAreExact : Prop :=
  ∀ (a b z : Ext),
    (valF a + valF b = valF z → valF (fadd a b).value = valF z ∧ (fadd a b).v = false ∧ (fadd a b).uf = false) ∧
    (valF a - valF b = valF z → valF (fsub a b).value = valF z ∧ (fsub a b).v = false ∧ (fsub a b).uf = false) ∧
    (isSingle a = true → isSingle b = true → valF a * valF b = valF z →
      valF (fmul a b).value = valF z ∧ (fmul a b).v = false ∧ (fmul a b).uf = false) ∧
    (-valF a = valF z → valF (fneg a).value = valF z ∧ (fneg a).v = false ∧ (fneg a).uf = false) ∧
    (|valF a| = valF z → valF (fabs a).value = valF z ∧ (fabs a).v = false ∧ (fabs a).uf = false)

/-- A larger exact result never yields a smaller float (R166 P5, which the spec calls its own assumption; log 16, 19):
sum, difference, product, negation and absolute value, and RND of values that a single-format value bounds from above.
FIX of values whose neighbouring integers are in range rises too. The spec frees negation and absolute value of the
most negative float, and RND and FIX beyond their ranges (U16, U19, U21). -/
def Obligations.FloatResultsRiseWithTheExactResult : Prop :=
  (∀ a b c d : Ext,
    (valF a + valF b < valF c + valF d → valF (fadd a b).value ≤ valF (fadd c d).value) ∧
    (valF a - valF b < valF c - valF d → valF (fsub a b).value ≤ valF (fsub c d).value) ∧
    (valF a * valF b < valF c * valF d → valF (fmul a b).value ≤ valF (fmul c d).value)) ∧
  (∀ a c : Ext, a ≠ 0x7F80000000#40 → c ≠ 0x7F80000000#40 →
    (-valF a < -valF c → valF (fneg a).value ≤ valF (fneg c).value) ∧
    (|valF a| < |valF c| → valF (fabs a).value ≤ valF (fabs c).value)) ∧
  (∀ a c : Ext, valF a < valF c →
    ((∃ w : Word, valF c ≤ valF (widen w)) → valF (frnd a).value ≤ valF (frnd c).value) ∧
    (-2147483648 ≤ valF a → valF c ≤ 2147483647 → (ffix a).value.toInt ≤ (ffix c).value.toInt))

/-- FLOAT is exact for every 32-bit integer (R342, R166 P2).
FIX of an integer value is that integer; of a value with a fraction, one of the two integers beside it; and
outside the 32-bit range V' = 1 and the word is free (R341, R166 P3; log 21).
RND of a single-format value has that value; otherwise, where the upper neighbour is in range, the result is a
single-format value with no other single-format value between it and the operand (R344, D28; log 20). -/
def Obligations.ConversionsAndRounding : Prop :=
  ((∀ i : Word, valF (ffloat i) = (i.toInt : ℚ)) ∧
  (∀ x : Ext,
     (∀ z : Int, valF x = z → -2147483648 ≤ z → z ≤ 2147483647 → ffix x = ⟨BitVec.ofInt 32 z, false⟩) ∧
     (∀ z : Int, (z : ℚ) < valF x → valF x < z + 1 → -2147483648 ≤ z → z + 1 ≤ 2147483647 →
       ffix x = ⟨BitVec.ofInt 32 z, false⟩ ∨ ffix x = ⟨BitVec.ofInt 32 (z + 1), false⟩) ∧
     (valF x < -2147483648 ∨ 2147483647 < valF x → (ffix x).v = true))) ∧
  (∀ x : Ext,
    (isSingle x = true → valF (frnd x).value = valF x ∧ (frnd x).v = false ∧ (frnd x).uf = false) ∧
    ((∃ w : Word, valF x ≤ valF (widen w)) → (frnd x).value.extractLsb' 0 8 = 0#8 ∨ isSingle x = true) ∧
    ((∃ w : Word, valF x ≤ valF (widen w)) → ∀ w : Word,
      ¬(valF (frnd x).value < valF (widen w) ∧ valF (widen w) < valF x) ∧
      ¬(valF x < valF (widen w) ∧ valF (widen w) < valF (frnd x).value)))

/-- ADDF, SUBF, SUBRF, MPYF and CMPF complete for every readable source: all 40 bits of Rn and the flags of the
result of the `FloatArith` function of R166 on (src, Rn), (Rn, src), (src, Rn), (src, Rn) and (Rn, src)
(R261, R269, R273, R277, R297, R302).
ADDF3, SUBF3, MPYF3 and CMPF3 complete for all readable sources that do not clash (R262, R270, R274, R278,
R298). -/
def Obligations.FloatArithmeticAndComparison : Prop :=
  (∀ (s s1 : State) (src : FSrc) (n : Rn) (v : Ext), srcFlt src s = .ok (v, s1) →
     let d := s.rn n
     exec (.addf src n) s = .next (sequential (s1.floatResult .arithFlt n (fadd v d).value (fadd v d).v (fadd v d).uf)) ∧
     exec (.subf src n) s = .next (sequential (s1.floatResult .arithFlt n (fsub d v).value (fsub d v).v (fsub d v).uf)) ∧
     exec (.subrf src n) s = .next (sequential (s1.floatResult .arithFlt n (fsub v d).value (fsub v d).v (fsub v d).uf)) ∧
     exec (.mpyf src n) s = .next (sequential (s1.floatResult .arithFlt n (fmul v d).value (fmul v d).v (fmul v d).uf)) ∧
     exec (.cmpf src n) s = .next (sequential (s1.floatFlags .cmpFlt (fsub d v).value (fsub d v).v (fsub d v).uf))) ∧
  (∀ (s s1 : State) (x y : FSrc3) (n : Rn) (a b : Ext), both3Flt x y s = .ok (a, b, s1) →
     exec (.addf3 x y n) s = .next (sequential (s1.floatResult .arithFlt n (fadd a b).value (fadd a b).v (fadd a b).uf)) ∧
     exec (.subf3 x y n) s = .next (sequential (s1.floatResult .arithFlt n (fsub a b).value (fsub a b).v (fsub a b).uf)) ∧
     exec (.mpyf3 x y n) s = .next (sequential (s1.floatResult .arithFlt n (fmul a b).value (fmul a b).v (fmul a b).uf)) ∧
     exec (.cmpf3 x y) s = .next (sequential (s1.floatFlags .cmpFlt (fsub a b).value (fsub a b).v (fsub a b).uf)))

/-- ABSF, NEGF, NORM, RND, FLOAT and FIX complete for every readable source; FIX for every destination that the
source does not modify (R265, R282, R341 to R344). -/
def Obligations.UnaryFloatsAndConversions : Prop :=
  (∀ (s s1 : State) (src : FSrc) (n : Rn) (v : Ext), srcFlt src s = .ok (v, s1) →
    exec (.absf src n) s = .next (sequential (s1.floatResult .arithFlt n (fabs v).value (fabs v).v (fabs v).uf)) ∧
    exec (.negf src n) s = .next (sequential (s1.floatResult .arithFlt n (fneg v).value (fneg v).v (fneg v).uf)) ∧
    exec (.norm src n) s = .next (sequential (s1.floatResult .arithFlt n (fnorm v).value (fnorm v).v (fnorm v).uf)) ∧
    exec (.rnd src n) s = .next (sequential (s1.floatResult .arithFlt n (frnd v).value (frnd v).v (frnd v).uf))) ∧
  (∀ (s s1 : State) (src : Src) (n : Rn) (v : Word), srcInt .signed src s = .ok (v, s1) →
    exec (.float src n) s = .next (sequential (s1.floatResult .arithFlt n (ffloat v) false false))) ∧
  (∀ (s s1 u : State) (src : FSrc) (dst : Reg) (v : Ext), fsrcClobbers src dst = false → srcFlt src s = .ok (v, s1) →
    s1.integerWrite .fix dst (ffix v).value none (ffix v).v = .ok u → exec (.fix src dst) s = .next (sequential u))

/-! ## Loads, stores and the stack -/

/-- LDF, LDE, LDM and LDFcond: the operand is evaluated whatever the condition is; LDE writes bits 39 to 32 alone,
LDM bits 31 to 0 alone, and only LDF writes flags (class LOAD_FLT); the mantissa of a short immediate zero is one of two patterns
(R231 to R233, R237; log 23).
LDI, LDIcond and LDP: LDI writes the flags of class LOAD_INT, the others no flag; LDP leaves the page number
alone in DP (R234, R235, R238, R245). -/
def Obligations.Loads : Prop :=
  (∀ (s s1 : State) (src : FSrc) (n : Rn) (v : Ext), srcFlt src s = .ok (v, s1) →
     exec (.ldf src n) s = .next (sequential (s1.floatLoad n v)) ∧
     exec (.lde src n) s = .next (sequential (s1.setR n (v.extractLsb' 32 8 ++ (s.rn n).extractLsb' 0 32))) ∧
     ((∀ k, src = .imm k → k.extractLsb' 12 4 ≠ 8#4) →
       exec (.ldm src n) s = .next (sequential (s1.setR n ((s.rn n).extractLsb' 32 8 ++ v.extractLsb' 0 32)))) ∧
     (∀ k, src = .imm k → k.extractLsb' 12 4 = 8#4 → ∃ m : Word, (m = 0#32 ∨ m = k.extractLsb' 0 12 ++ 0#20) ∧
       exec (.ldm src n) s = .next (sequential (s.tick.setR n ((s.rn n).extractLsb' 32 8 ++ m)))) ∧
     (∀ c, condTrue c s.st = true → exec (.ldfcond c src n) s = .next (sequential (s1.setR n v))) ∧
     (∀ c, condTrue c s.st = false → exec (.ldfcond c src n) s = .next (sequential s1))) ∧
  (∀ (s s1 u : State) (src : Src) (dst : Reg) (v : Word),
    srcClobbers src dst = false → srcInt .signed src s = .ok (v, s1) →
    (s1.integerWrite .loadInt dst v none false = .ok u → exec (.ldi src dst) s = .next (sequential u)) ∧
    (∀ c, condTrue c s.st = true → writeInt dst v s1 = .ok u → exec (.ldicond c src dst) s = .next (sequential u)) ∧
    (∀ c, condTrue c s.st = false → namedReg dst = true → exec (.ldicond c src dst) s = .next (sequential s1))) ∧
  (∀ (s : State) (p : BitVec 8), exec (.ldp p) s = .next (sequential { s with dp := BitVec.ofNat 32 p.toNat }))

/-- The stores: STI writes a register's 32 bits and STF bits 39 to 8 at the operand's address, the register read
before the address is updated (R243, R244, R78).
The stack: a push increments SP and then stores there, a pop reads at SP and then decrements it; PUSH SP stores
the old SP and of POP SP the popped value stays (R30, R239 to R242; D31). -/
def Obligations.StoresAndStack : Prop :=
  (∀ (s s1 : State) (m : MemOp) (a : Addr), ea m s = .ok (a, s1) → s.writable a →
     (∀ n : Rn, exec (.stf n m) s = .next (sequential (s1.store a ((s.rn n).extractLsb' 8 32)))) ∧
     (∀ (r : Reg) (v : Word), readInt r s = .ok v → exec (.sti r m) s = .next (sequential (s1.store a v)))) ∧
  (∀ s : State, s.writable (low24 (s.sp + 1)) →
    let pushed (v : Word) : State := { s.store (low24 (s.sp + 1)) v with sp := s.sp + 1 }
    (∀ (r : Reg) (v : Word), readInt r s = .ok v → exec (.push r) s = .next (sequential (pushed v))) ∧
    (∀ n : Rn, exec (.pushf n) s = .next (sequential (pushed ((s.rn n).extractLsb' 8 32))))) ∧
  (∀ (s s1 : State) (v : Word), memRead (low24 s.sp) s = .ok (v, s1) →
    (∀ (dst : Reg) (u : State), (s1.setSp (s.sp - 1)).integerWrite .loadInt dst v none false = .ok u →
      exec (.pop dst) s = .next (sequential u)) ∧
    (∀ n : Rn, exec (.popf n) s = .next (sequential ((s1.setSp (s.sp - 1)).floatLoad n (v ++ 0#8)))))

/-! ## Program control -/

/-- The target of a branch: the 24 LSBs of the register, or the address of the branch plus k plus the displacement,
with k = 0, 3, 0, 1, 3 for Bcond, BcondD, CALLcond, DBcond, DBcondD after reset (R102, R357; log 27).
BR, BRD, Bcond, BcondD, outside delay slots and RPTS (R360 to R363): a taken branch goes to its target at once,
a delayed one after three more instructions, also at RE in repeat mode (log 31); one not taken goes on. -/
def Obligations.BranchesAndTheirTargets : Prop :=
  (∀ (k : Nat) (r : Reg) (s : State) (v : Word), readInt r s = .ok v → target k (.reg r) s = .ok (v.setWidth 24)) ∧
  (∀ (k : Nat) (d : BitVec 16) (s : State), ∃ t : Addr, target k (.disp d) s = .ok t ∧
    (t.toNat : Int) = ((s.pc.toNat : Int) + k + d.toInt) % 16777216) ∧
  State.reset.params.branchBase = ⟨0, 3, 0, 1, 3⟩ ∧
  (∀ s : State, s.pend = none → s.rpts = .off →
     (∀ a, exec (.br a) s = .next { s with pc := a }) ∧
     (∀ a, exec (.brd a) s = .next { s with pend := some ⟨a, .three⟩, pc := s.pc + 1 }) ∧
     (∀ c x t, target s.params.branchBase.bcond x s = .ok t →
       exec (.bcond c x) s = .next (if condTrue c s.st = true then { s with pc := t } else sequential s)) ∧
     (∀ c x t, target s.params.branchBase.bcondD x s = .ok t →
       exec (.bcondD c x) s =
         .next (if condTrue c s.st = true then { s with pend := some ⟨t, .three⟩, pc := s.pc + 1 } else sequential s)))

/-- DBcond and DBcondD: ARn is decremented whatever the condition is, and the branch is taken when the condition
holds and the new ARn, read in W bits, is not negative; the target is that of the old ARn (R366, R367); a
delayed branch at RE in repeat mode goes to `pc + 1` (log 31). -/
def Obligations.DecrementAndBranch : Prop :=
  ∀ (s : State) (n : ARn), s.pend = none → s.rpts = .off →
    let a := s.arn n
    let new : Word := if s.params.arauWidth = .w32 then a - 1 else (a &&& 0xFF000000#32) ||| ((a - 1) &&& 0x00FFFFFF#32)
    let least := if s.params.arauWidth = .w32 then decide (0 ≤ new.toInt) else decide (0 ≤ (new.setWidth 24).toInt)
    let s1 := s.setAr n new
    (∀ c x t, target s.params.branchBase.dbcond x s = .ok t →
      exec (.dbcond c n x) s = .next (if condTrue c s.st && least then { s1 with pc := t } else sequential s1)) ∧
    (∀ c x t, target s.params.branchBase.dbcondD x s = .ok t →
      exec (.dbcondD c n x) s =
        .next (if condTrue c s.st && least then { s1 with pend := some ⟨t, .three⟩, pc := s.pc + 1 } else sequential s1))

/-- A delayed branch transfers after exactly three more instructions (R355): the instructions at A+1, A+2 and A+3
complete, and the next `pc` is T; here with no block repeated.
What follows an instruction that transfers nowhere, with no delayed branch pending (R27, R351, R376): `pc + 1`;
but at RE in repeat mode, RS with RC decremented, or, when RC is 0, `pc + 1` with RM cleared and RC 0 or FFFFFFFFh
(log 24).
"RC+1 veces": an instruction that repeats alone (RS = RE = its address) stays for RC passes, and the one after
them is the last (R36, R376, R377). -/
def Obligations.WhatFollowsAnInstruction : Prop :=
  (∀ (s : State) (t : Addr), s.pend = some ⟨t, .three⟩ → s.st.rm = false →
    (sequential s).pc = s.pc + 1 ∧ (sequential (sequential s)).pc = s.pc + 2 ∧
    (sequential (sequential (sequential s))).pc = t ∧ (sequential (sequential (sequential s))).pend = none) ∧
  (∀ s : State, s.pend = none →
     (s.st.rm = false ∨ s.pc ≠ low24 s.re → (sequential s).pc = s.pc + 1 ∧ (sequential s).rc = s.rc ∧ (sequential s).st = s.st) ∧
     (s.st.rm = true → s.pc = low24 s.re → s.rc ≠ 0#32 →
       (sequential s).pc = low24 s.rs ∧ (sequential s).rc = s.rc - 1 ∧ (sequential s).st = s.st) ∧
     (s.st.rm = true → s.pc = low24 s.re → s.rc = 0#32 →
       (sequential s).pc = s.pc + 1 ∧ ((sequential s).rc = 0#32 ∨ (sequential s).rc = 0xFFFFFFFF#32) ∧
       (sequential s).st = { s.st with rm := false })) ∧
  (∀ s : State, s.pend = none → s.st.rm = true → low24 s.rs = s.pc → low24 s.re = s.pc →
     (∀ k, k ≤ s.rc.toNat →
       (sequential^[k] s).pc = s.pc ∧ (sequential^[k] s).st = s.st ∧ (sequential^[k] s).rc.toNat = s.rc.toNat - k) ∧
     (sequential^[s.rc.toNat + 1] s).pc = s.pc + 1 ∧ (sequential^[s.rc.toNat + 1] s).st.rm = false)

/-- RPTB and RPTS set up a repeat, outside delay slots, RPTS and the block being repeated, with a count below 2^31
and a block that is not empty; RPTS's immediate count is below 8000h; otherwise they are refused (R375, R377, R378;
log 34). -/
def Obligations.RepeatInstructions : Prop :=
  ∀ s : State, s.pend = none → s.rpts = .off →
    let inside := s.st.rm = true ∧ (low24 s.rs).toNat ≤ s.pc.toNat ∧ s.pc.toNat ≤ (low24 s.re).toNat
    (inside → (∀ a, exec (.rptb a) s = .refused .nestedRepeat) ∧ (∀ x, exec (.rpts x) s = .refused .nestedRepeat)) ∧
    (¬inside → ∀ a : Addr,
      (s.rc.toNat < 2 ^ 31 → (s.pc + 1).toNat ≤ a.toNat →
        exec (.rptb a) s = .next { s with re := a.setWidth 32, rs := (s.pc + 1).setWidth 32, st := { s.st with rm := true },
                                          pc := s.pc + 1 }) ∧
      (2 ^ 31 ≤ s.rc.toNat → exec (.rptb a) s = .refused .repeatCount) ∧
      (s.rc.toNat < 2 ^ 31 → a.toNat < (s.pc + 1).toNat → exec (.rptb a) s = .refused .emptyRepeatBlock)) ∧
    (¬inside → ∀ (x : Src) (v : Word) (s1 : State), srcInt .unsigned x s = .ok (v, s1) →
      (v.toNat < 2 ^ 31 → (∀ k, x = .imm k → k.toNat < 2 ^ 15) →
        exec (.rpts x) s = .next { s1 with rc := v, rs := (s.pc + 1).setWidth 32, re := (s.pc + 1).setWidth 32,
                                           st := { s1.st with rm := true }, pc := s.pc + 1, rpts := .armed }) ∧
      (2 ^ 31 ≤ v.toNat ∨ (∃ k, x = .imm k ∧ 2 ^ 15 ≤ k.toNat) → exec (.rpts x) s = .refused .repeatCount))

/-- CALL, CALLcond and RETScond (R364, R365, R369): a call pushes `pc + 1`, zero-extended, and goes to its target; a
return pops its target; where the condition is false both go on and touch no stack. -/
def Obligations.CallsAndReturns : Prop :=
  ∀ s : State, s.pend = none → s.rpts = .off →
    let pushed : State := { s.store (low24 (s.sp + 1)) ((s.pc + 1).setWidth 32) with sp := s.sp + 1 }
    (∀ a, s.writable (low24 (s.sp + 1)) → exec (.call a) s = .next { pushed with pc := a }) ∧
    (∀ c x t, target s.params.branchBase.callcond x s = .ok t →
      (condTrue c s.st = true → s.writable (low24 (s.sp + 1)) → exec (.callcond c x) s = .next { pushed with pc := t }) ∧
      (condTrue c s.st = false → exec (.callcond c x) s = .next (sequential s))) ∧
    (∀ c v s1, memRead (low24 s.sp) s = .ok (v, s1) → condTrue c s.st = true →
      exec (.retscond c) s = .next { s1 with sp := s.sp - 1, pc := low24 v }) ∧
    (∀ c, condTrue c s.st = false → exec (.retscond c) s = .next (sequential s))

/-- TRAPcond and RETIcond (R368, R380, R472, R473): a trap pushes `pc + 1`, clears GIE and goes to the vector,
whatever GIE was; RETIcond pops its target and sets GIE; with a false condition both go on. A trap number above
TRAP_MAX, or one a list of vectors lacks, is refused whatever the condition is.
The vector is read before the push (log 36). After reset the vector of trap N is the low 24 bits of the word at
20h + N (log 8). -/
def Obligations.TrapsAndTheirReturn : Prop :=
  (∀ s : State, s.pend = none → s.rpts = .off →
    (∀ c n t s1, trapVector n.val s = .ok (t, s1) → condTrue c s.st = true → s.writable (low24 (s.sp + 1)) →
      exec (.trapcond c n) s =
        .next { s1.store (low24 (s.sp + 1)) ((s.pc + 1).setWidth 32) with
                  sp := s.sp + 1, st := { s.st with gie := false }, pc := t }) ∧
    (∀ c n, s.hasTrap n.val = true → condTrue c s.st = false → exec (.trapcond c n) s = .next (sequential s)) ∧
    (∀ c n, s.hasTrap n.val = false → exec (.trapcond c n) s = .refused .trapNumber) ∧
    (∀ c v s1, memRead (low24 s.sp) s = .ok (v, s1) → condTrue c s.st = true →
      exec (.reticond c) s = .next { s1 with sp := s.sp - 1, pc := low24 v, st := { s.st with gie := true } }) ∧
    (∀ c, condTrue c s.st = false → exec (.reticond c) s = .next (sequential s))) ∧
  (∀ (s : State) (n : Nat),
    (s.params.trapMax < n → s.hasTrap n = false) ∧
    (n ≤ s.params.trapMax → ∀ base, s.params.trapTable = .cells base → s.hasTrap n = true ∧
      ∀ w s1, memRead (base + BitVec.ofNat 24 n) s = .ok (w, s1) → trapVector n s = .ok (w.setWidth 24, s1)) ∧
    (n ≤ s.params.trapMax → ∀ l, s.params.trapTable = .fixed l →
      (∀ a, l[n]? = some a → s.hasTrap n = true ∧ trapVector n s = .ok (a, s)) ∧
      (l[n]? = none → s.hasTrap n = false))) ∧
  (∀ (s : State) (n : Fin 32), s.params = State.reset.params →
    trapVector n.val s = .ok (low24 (s.mem.read (0x20 + n.val)), s))

/-- A trap and its return come back to the instruction after it, with every register and every flag as before and
GIE = 1 (R473, R477); of memory only the stack word at SP + 1 may differ. -/
def Obligations.TrapAndReturnRestore : Prop :=
  ∀ (s t : State) (n : Fin 32), exec (.trapcond .u n) s = .next t → s.kindAt (low24 (s.sp + 1)) ≠ .peripheral →
    ∃ u, exec (.reticond .u) t = .next u ∧ u.pc = s.pc + 1 ∧ u.st = { s.st with gie := true } ∧
      (∀ r, r ≠ .st → u.contents r = s.contents r) ∧
      ∀ a : Addr, a ≠ low24 (s.sp + 1) → u.mem.read a.toNat = s.mem.read a.toNat

/-- What may not stand in a delay slot or under RPTS is refused there (R356, R378, R409), so is an instruction at
RE in repeat mode while a delayed branch is pending (R356). -/
def Obligations.RefusedInDelaySlotsAndUnderRpts : Prop :=
  (∀ (i : Instr) (s : State), controls i = true → s.pend ≠ none ∨ s.rpts ≠ .off → ∃ r, exec i s = .refused r) ∧
  (∀ (a : Addr) (s : State), s.pend ≠ none → exec (.br a) s = .refused .inDelaySlot) ∧
  (∀ (i : Instr) (s : State), i = .lopower ∨ i = .maxspeed → s.rpts ≠ .off → ∃ r, exec i s = .refused r) ∧
  (∀ s : State, (sampleInputs s).waiting = none → (sampleInputs s).pend ≠ none → (sampleInputs s).atRepeatEnd = true →
    step s = .refused .repeatEndInDelaySlot)

/-- SWI stops on every path: the source gives it no operation and forbids its use (R382, D29). -/
def Obligations.SwiIsRefused : Prop := ∀ s : State, exec .swi s = .refused .softwareInterrupt

/-- NOP and IACK: NOP only updates the ARn of its operand; IACK reads its operand, discards it, and pulses the IACK
line to 0 and back to 1 (R370, R372).
The low-power instructions and IDLE, where the machine has them (R371, R384 to R386, D37): IDLE and IDLE2 go to
`pc + 1` and wait, with GIE = 1, and change nothing else before the wait ends (R13); LOPOWER and MAXSPEED set the clock. With GIE = 0 both waits are refused (D30). -/
def Obligations.NopIackIdleAndLowPower : Prop :=
  (∀ s : State, exec (.nop none) s = .next (sequential s)) ∧
  (∀ (s s1 : State) (i : Indirect) (a : Addr), indirect i s = .ok (a, s1) → exec (.nop (some i)) s = .next (sequential s1)) ∧
  (∀ (s s1 s2 : State) (m : MemOp) (a : Addr) (w : Word), ea m s = .ok (a, s1) → memRead a s1 = .ok (w, s2) →
    exec (.iack m) s =
      .next (sequential { s2 with iack := true, trace := .iack true :: .iack false :: s.trace })) ∧
  (∀ s : State, s.rpts = .off →
     (s.pend = none → s.st.gie = true → exec .idle s = .next { s with pc := s.pc + 1, waiting := some .idle }) ∧
     (s.pend = none → s.st.gie = false → exec .idle s = .refused .idleWithoutGie) ∧
     (s.params.lc31LowPower = true →
       (s.pend = none → s.st.gie = true → exec .idle2 s = .next { s with pc := s.pc + 1, waiting := some .idle2 }) ∧
       (s.pend = none → s.st.gie = false → exec .idle2 s = .refused .idleWithoutGie) ∧
       exec .lopower s = .next (sequential { s with clock := .dividedBy16 }) ∧
       exec .maxspeed s = .next (sequential { s with clock := .normal })) ∧
     (s.params.lc31LowPower = false → exec .idle2 s = .refused .lowPowerAbsent ∧
       exec .lopower s = .refused .lowPowerAbsent ∧ exec .maxspeed s = .refused .lowPowerAbsent))

/-- A run that is over stays over (R526): with no inputs to come and no interrupt to take, the step of an
unconditional branch to itself, or of an IDLE, answers a state with every register, `pc` and memory as before, in which
the run is over again (a word fetched from a peripheral is free each time, log 15). That the branch ends the run before
it executes, and the IDLE once it waits, is the model's choice (log 51). -/
def Obligations.EndOfRun : Prop :=
  (∀ s : State, s.runOver = true → s.env = [] → s.takeable = none →
    (s.waiting = none → s.kindAt s.pc ≠ .peripheral) →
    ∃ t, step s = .next t ∧ t.runOver = true ∧ t.pc = s.pc ∧ t.mem = s.mem ∧ ∀ r, t.contents r = s.contents r) ∧
  (∀ (s : State) (w : Word) (s1 : State), s.waiting = none → s.pend = none → s.rpts = .off → s.pc.toNat ∉ s.stored →
    memRead s.pc s = .ok (w, s1) →
    (decode w = .ok (.br s.pc) → s.runOver = true) ∧ (∀ a, decode w = .ok (.br a) → a ≠ s.pc → s.runOver = false)) ∧
  (∀ s : State, s.waiting = some .idle → s.env = [] → (s.runOver = true ↔ s.takeable = none))

/-! ## Interrupts -/

/-- When an interrupt can be taken (R474): exactly with GIE = 1, enabled and pending, no delayed branch pending and no
RPTS, and then the first of its list; that an RPTS bars it from its arming on is log 33. Without one a step runs the
next instruction, and with one a free bit decides between the two (log 10).
A CPU that waits in IDLE or IDLE2 goes on waiting until an interrupt is taken, and comes back to the instruction
after the wait (R371, R384, R474), which completes then, so that the repeat mechanism acts then (R13, R376; log 37). -/
def Obligations.WhenInterruptsAreTaken : Prop :=
  (∀ (s : State) (i : Nat) (v : VectorRef), s.takeable = some (i, v) ↔
    s.st.gie = true ∧ s.pend = none ∧ s.rpts = .off ∧ s.sources[i]? = some ⟨v, true, true⟩ ∧
    ∀ j, j < i → ∀ x, s.sources[j]? = some x → ¬(x.enabled = true ∧ x.pending = true)) ∧
  (∀ s : State, let s0 := sampleInputs s
    s0.waiting = none →
    (s0.takeable = none → step s = fetchExec s0) ∧
    (∀ i v, s0.takeable = some (i, v) →
      (Config.freeBit s0.draws = false → step s = fetchExec s0.tick) ∧
      (Config.freeBit s0.draws = true → step s = toOutcome (enterInterrupt i v s0.pc s0.tick)))) ∧
  (∀ (s : State) (w : Waiting), let s0 := sampleInputs s
     s0.waiting = some w → (w = .idle ∨ w = .idle2) →
     (s0.takeable = none → step s = .next s0) ∧
     (∀ i v, s0.takeable = some (i, v) →
       (Config.freeBit s0.draws = false → step s = .next s0.tick) ∧
       (Config.freeBit s0.draws = true → step s =
         toOutcome (enterInterrupt i v s0.pc (sequential { s0.tick with pc := s0.pc - 1, waiting := none })))))

/-- Interrupt entry (R475): the return address is pushed, `pending(i)` and GIE are cleared, and execution goes on at
the vector's address; nothing else changes. The vector is an address, or the low 24 bits of a word in memory (R476),
which is read before the push (log 36).
What makes a source enabled or pending is the model's choice, as R476 leaves it to the parameter (log 9, 11): the inputs
of a step. An input makes pending the sources of its list, of its list of enables the last entry for a source decides,
and a source that no entry names keeps its enable. -/
def Obligations.InterruptEntry : Prop :=
  (∀ (s s1 : State) (i : Nat) (v : VectorRef) (ret a : Addr), vectorAddress v s = .ok (a, s1) →
    s.writable (low24 (s.sp + 1)) →
    enterInterrupt i v ret s =
      .ok { s1.store (low24 (s.sp + 1)) (ret.setWidth 32) with
              sp := s.sp + 1, st := { s.st with gie := false }, pc := a,
              sources := setSource (fun x => { x with pending := false }) i s.sources }) ∧
  (∀ (s : State) (a : Addr), vectorAddress (.fixed a) s = .ok (a, s) ∧
    ∀ w s1, memRead a s = .ok (w, s1) → vectorAddress (.cell a) s = .ok (w.setWidth 24, s1)) ∧
  (∀ (f : Source → Source) (i k : Nat) (l : List Source),
    (setSource f i l)[k]? = if k = i then (l[k]?).map f else l[k]?) ∧
  (∀ (e : EnvInput) (l : List Source) (k : Nat) (x : Source), l[k]? = some x → ∃ y, (e.onSources l)[k]? = some y ∧
    y.vector = x.vector ∧ (y.pending = true ↔ x.pending = true ∨ k ∈ e.irqs) ∧
    ((∀ b, (k, b) ∉ e.enables) → y.enabled = x.enabled) ∧
    (∀ b before later, e.enables = before ++ (k, b) :: later → (∀ c, (k, c) ∉ later) → y.enabled = b))

/-! ## Interlocked instructions -/

/-- XF0 is driven if and only if the operand is external or a peripheral: otherwise LDFI is LDF, LDII is LDI, STFI is
STF and STII is STI, in every respect, and XF0 keeps its level; SIGI always drives it (R402). -/
def Obligations.InterlockedOffTheBusArePlain : Prop :=
  ∀ (s s1 : State) (m : MemOp) (a : Addr), ea m s = .ok (a, s1) →
    (onBus a s = true ↔ s.kindAt a = .externalStrb ∨ s.kindAt a = .externalMstrb ∨ s.kindAt a = .externalIostrb ∨
      s.kindAt a = .peripheral) ∧
    (onBus a s = false →
      (∀ n, exec (.ldfi m n) s = exec (.ldf (.mem m) n) s) ∧
      (∀ r, namedReg r = true → exec (.ldii m r) s = exec (.ldi (.mem m) r) s) ∧
      (∀ n, exec (.stfi n m) s = exec (.stf n m) s) ∧ (∀ r, exec (.stii r m) s = exec (.sti r m) s) ∧
      (∀ i t, (∃ n, i = .ldfi m n) ∨ (∃ r, i = .ldii m r) ∨ (∃ n, i = .stfi n m) ∨ (∃ r, i = .stii r m) →
        exec i s = .next t → t.xf0 = s.xf0 ∧ t.trace = s.trace)) ∧
    (onBus a s = true →
      (∀ n t, exec (.ldfi m n) s = .next t → t.xf0 = false) ∧ (∀ r t, exec (.ldii m r) s = .next t → t.xf0 = false) ∧
      (∀ n t, exec (.stfi n m) s = .next t → t.xf0 = true) ∧ (∀ r t, exec (.stii r m) s = .next t → t.xf0 = true)) ∧
    (∀ t, exec .sigi s = .next t → LineEvent.xf0 false ∈ t.trace)

/-- XF0 ← 1 gives the interlock back, and XF0 ← 0 leaves it as it is (R76, R412).
The ready of an access (R401): RDYint with STRB, XRDYint with MSTRB or IOSTRB, always active for a peripheral.
LDFI and LDII on the bus: XF0 goes to 0; with XF1 = 0 and ready the load completes, and the program
then holds the interlock (R73, R412); otherwise the instruction waits, its address update made (R403, R404).
STFI and STII on the bus: XF0 goes to 1; the store waits for ready and not for XF1 (R407, R408, C6).
That the four run and wait so in a delay slot and under RPTS too is the model's choice (log 13). -/
def Obligations.InterlockedLoadsAndStores : Prop :=
  (∀ s : State, s.driveXf0 true = { s with xf0 := true, lock := false, trace := .xf0 true :: s.trace } ∧
    s.driveXf0 false = { s with xf0 := false, trace := .xf0 false :: s.trace }) ∧
  (∀ (s : State) (a : Addr), (s.kindAt a = .externalStrb → ready a s = s.rdyInt) ∧
    (s.kindAt a = .externalMstrb ∨ s.kindAt a = .externalIostrb → ready a s = s.xrdyInt) ∧
    (s.kindAt a = .peripheral → ready a s = true)) ∧
  (∀ (s s1 : State) (m : MemOp) (a : Addr), ea m s = .ok (a, s1) → onBus a s = true →
     (ready a s = true → s.xf1 = false → ∀ (w : Word) (s2 : State),
       memRead a { s1.driveXf0 false with lock := true } = .ok (w, s2) →
       (∀ n, exec (.ldfi m n) s = .next (sequential (s2.floatLoad n (w ++ 0#8)))) ∧
       (∀ r u, memClobbers m r = false → s2.integerWrite .loadInt r w none false = .ok u →
         exec (.ldii m r) s = .next (sequential u))) ∧
     (ready a s = false ∨ s.xf1 = true →
       (∀ n, exec (.ldfi m n) s = .next { s1.driveXf0 false with waiting := some (.ldfi a n) }) ∧
       (∀ r, memClobbers m r = false → namedReg r = true →
         exec (.ldii m r) s = .next { s1.driveXf0 false with waiting := some (.ldii a r) }))) ∧
  (∀ (s s1 : State) (m : MemOp) (a : Addr), ea m s = .ok (a, s1) → onBus a s = true →
     (ready a s = true → s.inProgram a = false →
       (∀ n, exec (.stfi n m) s = .next (sequential ((s1.driveXf0 true).store a ((s.rn n).extractLsb' 8 32)))) ∧
       (∀ r v, readInt r s = .ok v → exec (.stii r m) s = .next (sequential ((s1.driveXf0 true).store a v)))) ∧
     (ready a s = false →
       (∀ n, exec (.stfi n m) s = .next { s1.driveXf0 true with waiting := some (.store a ((s.rn n).extractLsb' 8 32)) }) ∧
       (∀ r v, readInt r s = .ok v → exec (.stii r m) s = .next { s1.driveXf0 true with waiting := some (.store a v) })))

/-- SIGI: XF0 goes to 0; when XF1 is 0 it goes back to 1, which gives an interlock back (R76), and the instruction is
done; else it waits, unless an interrupt could be taken, which is refused; a SIGI that waits goes on in the same way (R409, D41). -/
def Obligations.Sigi : Prop :=
  (∀ s : State, s.pend = none → s.rpts = .off →
    (s.xf1 = false →
      exec .sigi s = .next (sequential { s with
        xf0 := true, lock := false, trace := .xf0 true :: .xf0 false :: s.trace, waiting := none })) ∧
    (s.xf1 = true → s.takeable = none →
      exec .sigi s = .next { s with xf0 := false, trace := .xf0 false :: s.trace, waiting := some .sigi }) ∧
    (s.xf1 = true → s.takeable ≠ none → exec .sigi s = .refused .sigiInterrupted)) ∧
  (∀ s : State, let s0 := sampleInputs s
    s0.waiting = some .sigi →
    (s0.xf1 = false →
      step s = .next (sequential { s0 with
        waiting := none, xf0 := true, lock := false, trace := .xf0 true :: s0.trace })) ∧
    (s0.xf1 = true → s0.takeable = none → step s = .next s0) ∧
    (s0.xf1 = true → s0.takeable ≠ none → step s = .refused .sigiInterrupted))

/-- How a waiting LDFI, LDII, STFI or STII goes on (R13, R403, R404, R406 to R408). A load waits without ready; with
ready and XF1 = 0 it completes with the word then on the bus, and the program then holds the interlock (R73); with ready and XF1 = 1 it waits, or, when an interrupt can
end it, a free bit decides (log 10): the load is done and the return address is `pc + 1` (log 37 on RC and RM at RE).
Such an interrupt needs GIE = 1, enabled and pending, no delayed branch and no further pass of an RPTS (R474; log 33).
A store waits without ready, and with it completes. That these waits may stand in a delay slot and under RPTS is the
model's choice (log 13). -/
def Obligations.EndOfInterlockedWaits : Prop :=
  (∀ (s : State) (a : Addr), let s0 := sampleInputs s
    let s1 := { s0 with waiting := none }
    let exit (i : Nat) (v : VectorRef) (u : State) : Host.Outcome State Fault Refusal :=
      toOutcome (enterInterrupt i v (s0.pc + 1) { sequential u with rpts := .off })
    (∀ w, w = s0.waiting → (∃ n, w = some (.ldfi a n)) ∨ (∃ r, w = some (.ldii a r)) →
      (ready a s0 = false → step s = .next s0) ∧
      (ready a s0 = true → s0.xf1 = true → s0.loadExit = none → step s = .next s0) ∧
      (ready a s0 = true → s0.xf1 = true → s0.loadExit ≠ none → Config.freeBit s0.draws = false →
        step s = .next s0.tick)) ∧
    (∀ n, s0.waiting = some (.ldfi a n) → ready a s0 = true →
      (s0.xf1 = false → ∀ w s2, memRead a { s1 with lock := true } = .ok (w, s2) →
        step s = .next (sequential (s2.floatLoad n (w ++ 0#8)))) ∧
      (s0.xf1 = true → ∀ i v, s0.loadExit = some (i, v) → Config.freeBit s0.draws = true →
        ∀ w s2, memRead a s1.tick = .ok (w, s2) → step s = exit i v (s2.floatLoad n (w ++ 0#8)))) ∧
    (∀ r, s0.waiting = some (.ldii a r) → ready a s0 = true →
      (s0.xf1 = false → ∀ w s2 u, memRead a { s1 with lock := true } = .ok (w, s2) → s2.integerWrite .loadInt r w none false = .ok u →
        step s = .next (sequential u)) ∧
      (s0.xf1 = true → ∀ i v, s0.loadExit = some (i, v) → Config.freeBit s0.draws = true →
        ∀ w s2 u, memRead a s1.tick = .ok (w, s2) → s2.integerWrite .loadInt r w none false = .ok u →
          step s = exit i v u)) ∧
    (∀ v, s0.waiting = some (.store a v) →
      (ready a s0 = false → step s = .next s0) ∧
      (ready a s0 = true → s0.writable a → step s = .next (sequential (s1.store a v))))) ∧
  (∀ (s : State) (i : Nat) (v : VectorRef), s.loadExit = some (i, v) ↔
    s.st.gie = true ∧ s.pend = none ∧ (s.rpts = .off ∨ (s.atRepeatEnd = true ∧ s.rc = 0#32)) ∧
    s.sources[i]? = some ⟨v, true, true⟩ ∧
    ∀ j, j < i → ∀ x, s.sources[j]? = some x → ¬(x.enabled = true ∧ x.pending = true))

/-! ## Parallel instructions -/

/-- An integer operation with a store (R423, R424): both addresses, then the load, then the result and its flags,
then the store of the register as it was before the instruction; between the two accesses other agents may act (R69;
log 38). ABSI, NEGI, NOT, FIX, ADDI3, SUBI3, AND3, OR3, XOR3, ASH3, LSH3 and MPYI3, whose product is free when an
operand does not fit 24 bits (R431, R433 to R436, R442, R447, R450 to R452, R456, R457; the order of the subtraction
after reset is the source's, log 26; flags, log 28; the free product, log 22). -/
def Obligations.IntegerOperationWithStore : Prop :=
  ∀ (s s1 s2 : State) (src2 dst2 : Indirect) (src1 dst1 src3 : Rn) (a : Addr) (b : Word),
    clash src2 dst2 = false → indirect dst2 s = .ok (a, s1) → loadInd src2 s1 = .ok (b, s2) → s.writable a →
    let x := (s.rn src1).setWidth 32
    let one : OneStore := ⟨src2, dst1, src3, dst2⟩
    let two : TwoStore := ⟨src1, src2, dst1, src3, dst2⟩
    let s3 := agentsAct s2
    let bits := s.params.shiftBits
    let done (k : FlagClass) (v : Word) (c : Option Bool) (o : Bool) : Host.Outcome State Fault Refusal :=
      .next (sequential ((s3.integerResult k dst1 v c o).store a ((s.rn src3).setWidth 32)))
    let small := -8388608 ≤ x.toInt ∧ x.toInt ≤ 8388607 ∧ -8388608 ≤ b.toInt ∧ b.toInt ≤ 8388607
    exec (.absiSti one) s = done .absInt (if b.msb then -b else b) none (decide (b = 0x80000000#32)) ∧
    exec (.negiSti one) s = done .arithInt (-b) (some (decide (b ≠ 0#32))) (overflows (-b.toInt)) ∧
    exec (.notSti one) s = done .logic (~~~b) none false ∧
    exec (.fixSti one) s = done .fix (ffix (b ++ 0#8)).value none (ffix (b ++ 0#8)).v ∧
    exec (.addi3Sti two) s =
      done .arithInt (x + b) (some (decide (2 ^ 32 ≤ x.toNat + b.toNat))) (overflows (x.toInt + b.toInt)) ∧
    (s.params.parallelSubOrder = .source →
      exec (.subi3Sti two) s = done .arithInt (x - b) (some (decide (x.toNat < b.toNat))) (overflows (x.toInt - b.toInt))) ∧
    (s.params.parallelSubOrder = .vendor →
      exec (.subi3Sti two) s = done .arithInt (b - x) (some (decide (b.toNat < x.toNat))) (overflows (b.toInt - x.toInt))) ∧
    exec (.and3Sti two) s = done .logic (x &&& b) none false ∧ exec (.or3Sti two) s = done .logic (x ||| b) none false ∧
    exec (.xor3Sti two) s = done .logic (x ^^^ b) none false ∧
    exec (.ash3Sti two) s = done .shift (shiftArith bits b x).value (shiftArith bits b x).c (shiftArith bits b x).v ∧
    exec (.lsh3Sti two) s = done .shift (shiftLogical bits b x).value (shiftLogical bits b x).c (shiftLogical bits b x).v ∧
    (small → exec (.mpyi3Sti two) s = done .mulInt (x * b) none (overflows (x.toInt * b.toInt))) ∧
    (¬small → exec (.mpyi3Sti two) s =
      .next (sequential ((s3.tick.integerResult .mulInt dst1 (Config.freeWord s3.draws) none (Config.freeBit s3.draws)).store
        a ((s.rn src3).setWidth 32))))

/-- A float operation with a store, as the integer ones: ABSF, NEGF, FLOAT, ADDF3, SUBF3, MPYF3 (R430, R432, R437,
R444, R449, R455), and the loads with a store, which write no flag: LDF and LDI (R439, R441). -/
def Obligations.FloatOperationOrLoadWithStore : Prop :=
  ∀ (s s1 s2 : State) (src2 dst2 : Indirect) (src1 dst1 src3 : Rn) (a : Addr) (w : Word),
    clash src2 dst2 = false → indirect dst2 s = .ok (a, s1) → loadInd src2 s1 = .ok (w, s2) → s.writable a →
    let x := s.rn src1
    let b : Ext := w ++ 0#8
    let one : OneStore := ⟨src2, dst1, src3, dst2⟩
    let two : TwoStore := ⟨src1, src2, dst1, src3, dst2⟩
    let s3 := agentsAct s2
    let done (r : FltResult) : Host.Outcome State Fault Refusal :=
      .next (sequential ((s3.floatResult .arithFlt dst1 r.value r.v r.uf).store a ((s.rn src3).extractLsb' 8 32)))
    exec (.absfStf one) s = done (fabs b) ∧ exec (.negfStf one) s = done (fneg b) ∧
    exec (.floatStf one) s = done ⟨ffloat w, false, false⟩ ∧ exec (.addf3Stf two) s = done (fadd x b) ∧
    (s.params.parallelSubOrder = .source → exec (.subf3Stf two) s = done (fsub x b)) ∧
    (s.params.parallelSubOrder = .vendor → exec (.subf3Stf two) s = done (fsub b x)) ∧
    exec (.mpyf3Stf two) s = done (fmul x b) ∧
    exec (.ldfStf one) s = .next (sequential ((s3.setR dst1 b).store a ((s.rn src3).extractLsb' 8 32))) ∧
    exec (.ldiSti one) s =
      .next (sequential ((s3.setR dst1 ((s.rn dst1).extractLsb' 32 8 ++ w)).store a ((s.rn src3).setWidth 32)))

/-- Two loads and two stores (R438, R440, R453, R454): both read, or both write, on the state before, and between the
two accesses other agents may act (R69; log 38); two stores to one address are refused (R424). -/
def Obligations.TwoLoadsTwoStores : Prop :=
  (∀ (s s1 s2 s3 s4 : State) (p : LoadPair) (a b : Addr) (v w : Word), p.dst1 ≠ p.dst2 → clash p.src2 p.src4 = false →
    indirect p.src2 s = .ok (a, s1) → indirect p.src4 s1 = .ok (b, s2) → memRead a s2 = .ok (v, s3) →
    memRead b (agentsAct s3) = .ok (w, s4) →
    exec (.ldfLdf p) s = .next (sequential ((s4.setR p.dst1 (v ++ 0#8)).setR p.dst2 (w ++ 0#8))) ∧
    exec (.ldiLdi p) s =
      .next (sequential ((s4.setR p.dst1 ((s.rn p.dst1).extractLsb' 32 8 ++ v)).setR p.dst2
        ((s.rn p.dst2).extractLsb' 32 8 ++ w)))) ∧
  (∀ (s s1 s2 : State) (p : StorePair) (a b : Addr), clash p.dst1 p.dst2 = false →
    indirect p.dst1 s = .ok (a, s1) → indirect p.dst2 s1 = .ok (b, s2) →
    (a ≠ b → s.writable a → s.writable b →
      exec (.stfStf p) s =
        .next (sequential ((agentsAct (s2.store a ((s.rn p.src1).extractLsb' 8 32))).store b
          ((s.rn p.src3).extractLsb' 8 32))) ∧
      exec (.stiSti p) s =
        .next (sequential ((agentsAct (s2.store a ((s.rn p.src1).setWidth 32))).store b ((s.rn p.src3).setWidth 32)))) ∧
    (a = b → exec (.stfStf p) s = .refused .sameStoreAddress ∧ exec (.stiSti p) s = .refused .sameStoreAddress))

/-- A multiply with an add or subtract (R428, R443, R445, R446, R448): the product in R0 or R1 and the sum or
difference in R2 or R3, from operands all read before; the flags of class PAR_MPY_ADD with V and UF those of either
(R425; log 28); an integer product with an operand that does not fit 24 bits is free (R161; log 22). -/
def Obligations.MultiplyWithAddOrSubtract : Prop :=
  (∀ (s s1 : State) (p : MulPair) (a b c d : Ext), mulPairFlt p s = .ok (a, b, c, d, s1) →
    let n : Rn := if p.op3R1 then 1 else 0
    let k : Rn := if p.op6R3 then 3 else 2
    let m := fmul a b
    let done (q : FltResult) : Host.Outcome State Fault Refusal :=
      .next (sequential (((s1.setR n m.value).setR k q.value).pairFlags (m.v || q.v) (m.uf || q.uf)
        (decide (valF q.value = 0)) (decide (valF q.value < 0))))
    exec (.mpyf3Addf3 p) s = done (fadd c d) ∧
    (s.params.parallelSubOrder = .source → exec (.mpyf3Subf3 p) s = done (fsub c d)) ∧
    (s.params.parallelSubOrder = .vendor → exec (.mpyf3Subf3 p) s = done (fsub d c))) ∧
  (∀ (s s1 : State) (p : MulPair) (a b c d : Word), mulPairInt p s = .ok (a, b, c, d, s1) →
    let small := -8388608 ≤ a.toInt ∧ a.toInt ≤ 8388607 ∧ -8388608 ≤ b.toInt ∧ b.toInt ≤ 8388607
    let n : Rn := if p.op3R1 then 1 else 0
    let k : Rn := if p.op6R3 then 3 else 2
    let done (s2 : State) (m : Word) (o : Bool) (q : Word) (v : Bool) : Host.Outcome State Fault Refusal :=
      .next (sequential (((s2.setR n ((s.rn n).extractLsb' 32 8 ++ m)).setR k ((s.rn k).extractLsb' 32 8 ++ q)).pairFlags
        (o || v) false (decide (q = 0#32)) q.msb))
    ∀ (s2 : State) (m : Word) (o : Bool),
      (small ∧ s2 = s1 ∧ m = a * b ∧ o = overflows (a.toInt * b.toInt)) ∨
        (¬small ∧ s2 = s1.tick ∧ m = Config.freeWord s1.draws ∧ o = Config.freeBit s1.draws) →
      exec (.mpyi3Addi3 p) s = done s2 m o (c + d) (overflows (c.toInt + d.toInt)) ∧
      (s.params.parallelSubOrder = .source → exec (.mpyi3Subi3 p) s = done s2 m o (c - d) (overflows (c.toInt - d.toInt))) ∧
      (s.params.parallelSubOrder = .vendor → exec (.mpyi3Subi3 p) s = done s2 m o (d - c) (overflows (d.toInt - c.toInt)))) ∧
  (∀ (s : State) (p : MulPair), (pairIndirects p).length ≠ 2 →
    exec (.mpyf3Addf3 p) s = .refused .parallelOperands ∧ exec (.mpyf3Subf3 p) s = .refused .parallelOperands ∧
    exec (.mpyi3Addi3 p) s = .refused .parallelOperands ∧ exec (.mpyi3Subi3 p) s = .refused .parallelOperands)
end

