-- ==== Sys2Proof/Laws/Memory.lean ====
section
/-! SUPPORT. Memory: what a read gives after a write, and that every operation keeps the canonical form. -/

namespace Sys2Proof.Machine

/-! ## Read after write -/

theorem Memory.read_erase_self (m : Memory) (a : Nat) : (m.erase a).read a = Memory.unlisted := by
  fun_induction Memory.erase m a with
  | case1 => rfl
  | case2 => assumption
  | case3 _ b v t h ih => simp [Memory.read, h, ih]

theorem Memory.read_erase_of_ne (m : Memory) {a b : Nat} (h : a ≠ b) : (m.erase a).read b = m.read b := by
  fun_induction Memory.erase m a with
  | case1 => rfl
  | case2 c v t ih => simp [Memory.read, h, ih h]
  | case3 a c v t hc ih => simp only [Memory.read, ih h]

theorem Memory.read_insert_self (m : Memory) (a : Nat) (v : Word) : (m.insert a v).read a = v := by
  fun_induction Memory.insert m a v with
  | case1 => simp [Memory.read]
  | case2 => simp [Memory.read]
  | case3 => simp [Memory.read]
  | case4 b w t a v h1 h2 ih => simp [Memory.read, Ne.symm h2, ih]

theorem Memory.read_insert_of_ne (m : Memory) {a b : Nat} (v : Word) (h : a ≠ b) :
    (m.insert a v).read b = m.read b := by
  fun_induction Memory.insert m a v with
  | case1 => simp [Memory.read, h]
  | case2 => simp [Memory.read, h]
  | case3 => simp [Memory.read, h]
  | case4 c w t a v h1 h2 ih => simp only [Memory.read, ih h]

theorem Memory.read_write_self (m : Memory) (a : Nat) (v : Word) : (m.write a v).read a = v := by
  unfold Memory.write
  split
  · next h => rw [h, Memory.read_erase_self]
  · exact Memory.read_insert_self m a v

theorem Memory.read_write_of_ne (m : Memory) {a b : Nat} (v : Word) (h : a ≠ b) :
    (m.write a v).read b = m.read b := by
  unfold Memory.write
  split
  · exact Memory.read_erase_of_ne m h
  · exact Memory.read_insert_of_ne m v h

/-! ## The canonical form -/

@[simp] theorem Memory.wfFrom_nil (lo : Nat) : Memory.wfFrom lo [] = true := rfl

@[simp] theorem Memory.wfFrom_cons (lo a : Nat) (v : Word) (t : Memory) :
    Memory.wfFrom lo ((a, v) :: t) = true ↔
      lo ≤ a ∧ a < 2 ^ 24 ∧ v ≠ Memory.unlisted ∧ Memory.wfFrom (a + 1) t = true := by
  simp [Memory.wfFrom, and_assoc]

theorem Memory.wfFrom_weaken {lo lo' : Nat} (m : Memory) (h : lo' ≤ lo) (hm : m.wfFrom lo = true) :
    m.wfFrom lo' = true := by
  cases m with
  | nil => rfl
  | cons p t =>
    obtain ⟨a, v⟩ := p
    rw [Memory.wfFrom_cons] at hm ⊢
    exact ⟨by omega, hm.2⟩

theorem Memory.erase_wfFrom {lo : Nat} (m : Memory) (a : Nat) (h : m.wfFrom lo = true) :
    (m.erase a).wfFrom lo = true := by
  fun_induction Memory.erase m a generalizing lo with
  | case1 => rfl
  | case2 b v t ih =>
    rw [Memory.wfFrom_cons] at h
    exact ih (Memory.wfFrom_weaken _ (by omega) h.2.2.2)
  | case3 a b v t hb ih =>
    rw [Memory.wfFrom_cons] at h ⊢
    exact ⟨h.1, h.2.1, h.2.2.1, ih h.2.2.2⟩

theorem Memory.insert_wfFrom {lo : Nat} (m : Memory) (a : Nat) (v : Word) (ha : a < 2 ^ 24) (hlo : lo ≤ a)
    (hv : v ≠ Memory.unlisted) (h : m.wfFrom lo = true) : (m.insert a v).wfFrom lo = true := by
  fun_induction Memory.insert m a v generalizing lo with
  | case1 => exact (Memory.wfFrom_cons ..).mpr ⟨hlo, ha, hv, rfl⟩
  | case2 b w t a v hab =>
    rw [Memory.wfFrom_cons] at h
    simp only [Memory.wfFrom_cons]
    exact ⟨hlo, ha, hv, by omega, h.2⟩
  | case3 b w t v h1 =>
    rw [Memory.wfFrom_cons] at h ⊢
    exact ⟨hlo, ha, hv, h.2.2.2⟩
  | case4 b w t a v h1 h2 ih =>
    rw [Memory.wfFrom_cons] at h ⊢
    exact ⟨h.1, h.2.1, h.2.2.1, ih ha (by omega) hv h.2.2.2⟩

/-- A write keeps the canonical form. -/
theorem Memory.write_wf (m : Memory) (a : Nat) (v : Word) (ha : a < 2 ^ 24) (h : m.wf = true) :
    (m.write a v).wf = true := by
  unfold Memory.write
  split
  · exact Memory.erase_wfFrom m a h
  · next hv => exact Memory.insert_wfFrom m a v ha (Nat.zero_le a) hv h

/-- A write at an address of the machine keeps the canonical form. -/
theorem Memory.write_addr_wf (m : Memory) (a : Addr) (v : Word) (h : m.wf = true) :
    (m.write a.toNat v).wf = true := Memory.write_wf m a.toNat v a.isLt h

/-- Two memories in canonical form that read the same everywhere are equal, from any lower bound on. -/
theorem Memory.ext_from (m n : Memory) {lo : Nat} (hm : m.wfFrom lo = true) (hn : n.wfFrom lo = true)
    (h : ∀ a, m.read a = n.read a) : m = n := by
  have below : ∀ (t : Memory) {lo a : Nat}, t.wfFrom lo = true → a < lo → t.read a = Memory.unlisted := by
    intro t
    induction t with
    | nil => intros; rfl
    | cons p t ih =>
      obtain ⟨b, w⟩ := p
      intro lo a ht ha
      rw [Memory.wfFrom_cons] at ht
      have hb : b ≠ a := by omega
      simp only [Memory.read, hb, if_false]
      exact ih ht.2.2.2 (by omega)
  induction m generalizing n lo with
  | nil =>
    cases n with
    | nil => rfl
    | cons p t =>
      obtain ⟨b, w⟩ := p
      rw [Memory.wfFrom_cons] at hn
      have := h b
      simp [Memory.read] at this
      exact absurd this.symm hn.2.2.1
  | cons p t ih =>
    obtain ⟨a, v⟩ := p
    cases n with
    | nil =>
      rw [Memory.wfFrom_cons] at hm
      have := h a
      simp [Memory.read] at this
      exact absurd this hm.2.2.1
    | cons q u =>
      obtain ⟨b, w⟩ := q
      rw [Memory.wfFrom_cons] at hm hn
      have hab : a = b := by
        rcases Nat.lt_trichotomy a b with hlt | heq | hgt
        · have := h a
          simp [Memory.read, Nat.ne_of_gt hlt] at this
          rw [below u hn.2.2.2 (by omega)] at this
          exact absurd this hm.2.2.1
        · exact heq
        · have := h b
          simp [Memory.read, Nat.ne_of_gt hgt] at this
          rw [below t hm.2.2.2 (by omega)] at this
          exact absurd this.symm hn.2.2.1
      subst hab
      have hv : v = w := by simpa [Memory.read] using h a
      subst hv
      congr 1
      refine ih u hm.2.2.2 hn.2.2.2 fun c => ?_
      by_cases hc : a = c
      · subst hc
        rw [below t hm.2.2.2 (by omega), below u hn.2.2.2 (by omega)]
      · simpa [Memory.read, hc] using h c

/-- Memories in canonical form are equal data when they read the same everywhere. -/
theorem Memory.ext (m n : Memory) (hm : m.wf = true) (hn : n.wf = true) (h : ∀ a, m.read a = n.read a) : m = n :=
  Memory.ext_from m n hm hn h

/-! ## Lists of addresses -/

@[simp] theorem mem_noteAddr {a b : Nat} {l : List Nat} : b ∈ noteAddr a l ↔ b = a ∨ b ∈ l := by
  induction l with
  | nil => simp [noteAddr]
  | cons c t ih =>
    simp only [noteAddr]
    split
    · simp
    · split
      · next h => simp [h]
      · simp only [List.mem_cons, ih]
        tauto

/-- A list of addresses stays strictly rising. -/
theorem noteAddr_rising {a : Nat} {l : List Nat} (h : l.Pairwise (· < ·)) : (noteAddr a l).Pairwise (· < ·) := by
  induction l with
  | nil => simp [noteAddr]
  | cons c t ih =>
    rw [List.pairwise_cons] at h
    simp only [noteAddr]
    split
    · next hac =>
      rw [List.pairwise_cons]
      refine ⟨fun b hb => ?_, List.pairwise_cons.2 h⟩
      rcases List.mem_cons.1 hb with rfl | hb
      · exact hac
      · exact Nat.lt_trans hac (h.1 b hb)
    · split
      · exact List.pairwise_cons.2 h
      · rw [List.pairwise_cons]
        refine ⟨fun b hb => ?_, ih h.2⟩
        rcases mem_noteAddr.1 hb with rfl | hb
        · omega
        · exact h.1 b hb

end Sys2Proof.Machine
end

