-- ==== Sys2Proof/Laws/State.lean ====
section
/-! SUPPORT. Every field of the state after every named update, so that no proof unfolds a record update, and
the reads of R0 to R7 and AR0 to AR7 after the updates of them. -/

namespace Sys2Proof.Machine

variable (s : State)

/-! ## `State.setR` -/

@[simp] theorem State.setR_r (n : Rn) (x : Ext) : (s.setR n x).r = s.r.set n x := rfl
@[simp] theorem State.setR_ar (n : Rn) (x : Ext) : (s.setR n x).ar = s.ar := rfl
@[simp] theorem State.setR_dp (n : Rn) (x : Ext) : (s.setR n x).dp = s.dp := rfl
@[simp] theorem State.setR_ir0 (n : Rn) (x : Ext) : (s.setR n x).ir0 = s.ir0 := rfl
@[simp] theorem State.setR_ir1 (n : Rn) (x : Ext) : (s.setR n x).ir1 = s.ir1 := rfl
@[simp] theorem State.setR_bk (n : Rn) (x : Ext) : (s.setR n x).bk = s.bk := rfl
@[simp] theorem State.setR_sp (n : Rn) (x : Ext) : (s.setR n x).sp = s.sp := rfl
@[simp] theorem State.setR_st (n : Rn) (x : Ext) : (s.setR n x).st = s.st := rfl
@[simp] theorem State.setR_ie (n : Rn) (x : Ext) : (s.setR n x).ie = s.ie := rfl
@[simp] theorem State.setR_ifr (n : Rn) (x : Ext) : (s.setR n x).ifr = s.ifr := rfl
@[simp] theorem State.setR_iof (n : Rn) (x : Ext) : (s.setR n x).iof = s.iof := rfl
@[simp] theorem State.setR_rs (n : Rn) (x : Ext) : (s.setR n x).rs = s.rs := rfl
@[simp] theorem State.setR_re (n : Rn) (x : Ext) : (s.setR n x).re = s.re := rfl
@[simp] theorem State.setR_rc (n : Rn) (x : Ext) : (s.setR n x).rc = s.rc := rfl
@[simp] theorem State.setR_pc (n : Rn) (x : Ext) : (s.setR n x).pc = s.pc := rfl
@[simp] theorem State.setR_ir (n : Rn) (x : Ext) : (s.setR n x).ir = s.ir := rfl
@[simp] theorem State.setR_rpts (n : Rn) (x : Ext) : (s.setR n x).rpts = s.rpts := rfl
@[simp] theorem State.setR_pend (n : Rn) (x : Ext) : (s.setR n x).pend = s.pend := rfl
@[simp] theorem State.setR_waiting (n : Rn) (x : Ext) : (s.setR n x).waiting = s.waiting := rfl
@[simp] theorem State.setR_xf0 (n : Rn) (x : Ext) : (s.setR n x).xf0 = s.xf0 := rfl
@[simp] theorem State.setR_lock (n : Rn) (x : Ext) : (s.setR n x).lock = s.lock := rfl
@[simp] theorem State.setR_iack (n : Rn) (x : Ext) : (s.setR n x).iack = s.iack := rfl
@[simp] theorem State.setR_clock (n : Rn) (x : Ext) : (s.setR n x).clock = s.clock := rfl
@[simp] theorem State.setR_sources (n : Rn) (x : Ext) : (s.setR n x).sources = s.sources := rfl
@[simp] theorem State.setR_mem (n : Rn) (x : Ext) : (s.setR n x).mem = s.mem := rfl
@[simp] theorem State.setR_ran (n : Rn) (x : Ext) : (s.setR n x).ran = s.ran := rfl
@[simp] theorem State.setR_stored (n : Rn) (x : Ext) : (s.setR n x).stored = s.stored := rfl
@[simp] theorem State.setR_xf1 (n : Rn) (x : Ext) : (s.setR n x).xf1 = s.xf1 := rfl
@[simp] theorem State.setR_rdyInt (n : Rn) (x : Ext) : (s.setR n x).rdyInt = s.rdyInt := rfl
@[simp] theorem State.setR_xrdyInt (n : Rn) (x : Ext) : (s.setR n x).xrdyInt = s.xrdyInt := rfl
@[simp] theorem State.setR_between (n : Rn) (x : Ext) : (s.setR n x).between = s.between := rfl
@[simp] theorem State.setR_env (n : Rn) (x : Ext) : (s.setR n x).env = s.env := rfl
@[simp] theorem State.setR_trace (n : Rn) (x : Ext) : (s.setR n x).trace = s.trace := rfl
@[simp] theorem State.setR_draws (n : Rn) (x : Ext) : (s.setR n x).draws = s.draws := rfl
@[simp] theorem State.setR_params (n : Rn) (x : Ext) : (s.setR n x).params = s.params := rfl

/-! ## `State.setAr` -/

@[simp] theorem State.setAr_r (n : ARn) (v : Word) : (s.setAr n v).r = s.r := rfl
@[simp] theorem State.setAr_ar (n : ARn) (v : Word) : (s.setAr n v).ar = s.ar.set n v := rfl
@[simp] theorem State.setAr_dp (n : ARn) (v : Word) : (s.setAr n v).dp = s.dp := rfl
@[simp] theorem State.setAr_ir0 (n : ARn) (v : Word) : (s.setAr n v).ir0 = s.ir0 := rfl
@[simp] theorem State.setAr_ir1 (n : ARn) (v : Word) : (s.setAr n v).ir1 = s.ir1 := rfl
@[simp] theorem State.setAr_bk (n : ARn) (v : Word) : (s.setAr n v).bk = s.bk := rfl
@[simp] theorem State.setAr_sp (n : ARn) (v : Word) : (s.setAr n v).sp = s.sp := rfl
@[simp] theorem State.setAr_st (n : ARn) (v : Word) : (s.setAr n v).st = s.st := rfl
@[simp] theorem State.setAr_ie (n : ARn) (v : Word) : (s.setAr n v).ie = s.ie := rfl
@[simp] theorem State.setAr_ifr (n : ARn) (v : Word) : (s.setAr n v).ifr = s.ifr := rfl
@[simp] theorem State.setAr_iof (n : ARn) (v : Word) : (s.setAr n v).iof = s.iof := rfl
@[simp] theorem State.setAr_rs (n : ARn) (v : Word) : (s.setAr n v).rs = s.rs := rfl
@[simp] theorem State.setAr_re (n : ARn) (v : Word) : (s.setAr n v).re = s.re := rfl
@[simp] theorem State.setAr_rc (n : ARn) (v : Word) : (s.setAr n v).rc = s.rc := rfl
@[simp] theorem State.setAr_pc (n : ARn) (v : Word) : (s.setAr n v).pc = s.pc := rfl
@[simp] theorem State.setAr_ir (n : ARn) (v : Word) : (s.setAr n v).ir = s.ir := rfl
@[simp] theorem State.setAr_rpts (n : ARn) (v : Word) : (s.setAr n v).rpts = s.rpts := rfl
@[simp] theorem State.setAr_pend (n : ARn) (v : Word) : (s.setAr n v).pend = s.pend := rfl
@[simp] theorem State.setAr_waiting (n : ARn) (v : Word) : (s.setAr n v).waiting = s.waiting := rfl
@[simp] theorem State.setAr_xf0 (n : ARn) (v : Word) : (s.setAr n v).xf0 = s.xf0 := rfl
@[simp] theorem State.setAr_lock (n : ARn) (v : Word) : (s.setAr n v).lock = s.lock := rfl
@[simp] theorem State.setAr_iack (n : ARn) (v : Word) : (s.setAr n v).iack = s.iack := rfl
@[simp] theorem State.setAr_clock (n : ARn) (v : Word) : (s.setAr n v).clock = s.clock := rfl
@[simp] theorem State.setAr_sources (n : ARn) (v : Word) : (s.setAr n v).sources = s.sources := rfl
@[simp] theorem State.setAr_mem (n : ARn) (v : Word) : (s.setAr n v).mem = s.mem := rfl
@[simp] theorem State.setAr_ran (n : ARn) (v : Word) : (s.setAr n v).ran = s.ran := rfl
@[simp] theorem State.setAr_stored (n : ARn) (v : Word) : (s.setAr n v).stored = s.stored := rfl
@[simp] theorem State.setAr_xf1 (n : ARn) (v : Word) : (s.setAr n v).xf1 = s.xf1 := rfl
@[simp] theorem State.setAr_rdyInt (n : ARn) (v : Word) : (s.setAr n v).rdyInt = s.rdyInt := rfl
@[simp] theorem State.setAr_xrdyInt (n : ARn) (v : Word) : (s.setAr n v).xrdyInt = s.xrdyInt := rfl
@[simp] theorem State.setAr_between (n : ARn) (v : Word) : (s.setAr n v).between = s.between := rfl
@[simp] theorem State.setAr_env (n : ARn) (v : Word) : (s.setAr n v).env = s.env := rfl
@[simp] theorem State.setAr_trace (n : ARn) (v : Word) : (s.setAr n v).trace = s.trace := rfl
@[simp] theorem State.setAr_draws (n : ARn) (v : Word) : (s.setAr n v).draws = s.draws := rfl
@[simp] theorem State.setAr_params (n : ARn) (v : Word) : (s.setAr n v).params = s.params := rfl

/-! ## `State.setSt` -/

@[simp] theorem State.setSt_r (x : Status) : (s.setSt x).r = s.r := rfl
@[simp] theorem State.setSt_ar (x : Status) : (s.setSt x).ar = s.ar := rfl
@[simp] theorem State.setSt_dp (x : Status) : (s.setSt x).dp = s.dp := rfl
@[simp] theorem State.setSt_ir0 (x : Status) : (s.setSt x).ir0 = s.ir0 := rfl
@[simp] theorem State.setSt_ir1 (x : Status) : (s.setSt x).ir1 = s.ir1 := rfl
@[simp] theorem State.setSt_bk (x : Status) : (s.setSt x).bk = s.bk := rfl
@[simp] theorem State.setSt_sp (x : Status) : (s.setSt x).sp = s.sp := rfl
@[simp] theorem State.setSt_st (x : Status) : (s.setSt x).st = x := rfl
@[simp] theorem State.setSt_ie (x : Status) : (s.setSt x).ie = s.ie := rfl
@[simp] theorem State.setSt_ifr (x : Status) : (s.setSt x).ifr = s.ifr := rfl
@[simp] theorem State.setSt_iof (x : Status) : (s.setSt x).iof = s.iof := rfl
@[simp] theorem State.setSt_rs (x : Status) : (s.setSt x).rs = s.rs := rfl
@[simp] theorem State.setSt_re (x : Status) : (s.setSt x).re = s.re := rfl
@[simp] theorem State.setSt_rc (x : Status) : (s.setSt x).rc = s.rc := rfl
@[simp] theorem State.setSt_pc (x : Status) : (s.setSt x).pc = s.pc := rfl
@[simp] theorem State.setSt_ir (x : Status) : (s.setSt x).ir = s.ir := rfl
@[simp] theorem State.setSt_rpts (x : Status) : (s.setSt x).rpts = s.rpts := rfl
@[simp] theorem State.setSt_pend (x : Status) : (s.setSt x).pend = s.pend := rfl
@[simp] theorem State.setSt_waiting (x : Status) : (s.setSt x).waiting = s.waiting := rfl
@[simp] theorem State.setSt_xf0 (x : Status) : (s.setSt x).xf0 = s.xf0 := rfl
@[simp] theorem State.setSt_lock (x : Status) : (s.setSt x).lock = s.lock := rfl
@[simp] theorem State.setSt_iack (x : Status) : (s.setSt x).iack = s.iack := rfl
@[simp] theorem State.setSt_clock (x : Status) : (s.setSt x).clock = s.clock := rfl
@[simp] theorem State.setSt_sources (x : Status) : (s.setSt x).sources = s.sources := rfl
@[simp] theorem State.setSt_mem (x : Status) : (s.setSt x).mem = s.mem := rfl
@[simp] theorem State.setSt_ran (x : Status) : (s.setSt x).ran = s.ran := rfl
@[simp] theorem State.setSt_stored (x : Status) : (s.setSt x).stored = s.stored := rfl
@[simp] theorem State.setSt_xf1 (x : Status) : (s.setSt x).xf1 = s.xf1 := rfl
@[simp] theorem State.setSt_rdyInt (x : Status) : (s.setSt x).rdyInt = s.rdyInt := rfl
@[simp] theorem State.setSt_xrdyInt (x : Status) : (s.setSt x).xrdyInt = s.xrdyInt := rfl
@[simp] theorem State.setSt_between (x : Status) : (s.setSt x).between = s.between := rfl
@[simp] theorem State.setSt_env (x : Status) : (s.setSt x).env = s.env := rfl
@[simp] theorem State.setSt_trace (x : Status) : (s.setSt x).trace = s.trace := rfl
@[simp] theorem State.setSt_draws (x : Status) : (s.setSt x).draws = s.draws := rfl
@[simp] theorem State.setSt_params (x : Status) : (s.setSt x).params = s.params := rfl

/-! ## `State.setSp` -/

@[simp] theorem State.setSp_r (v : Word) : (s.setSp v).r = s.r := rfl
@[simp] theorem State.setSp_ar (v : Word) : (s.setSp v).ar = s.ar := rfl
@[simp] theorem State.setSp_dp (v : Word) : (s.setSp v).dp = s.dp := rfl
@[simp] theorem State.setSp_ir0 (v : Word) : (s.setSp v).ir0 = s.ir0 := rfl
@[simp] theorem State.setSp_ir1 (v : Word) : (s.setSp v).ir1 = s.ir1 := rfl
@[simp] theorem State.setSp_bk (v : Word) : (s.setSp v).bk = s.bk := rfl
@[simp] theorem State.setSp_sp (v : Word) : (s.setSp v).sp = v := rfl
@[simp] theorem State.setSp_st (v : Word) : (s.setSp v).st = s.st := rfl
@[simp] theorem State.setSp_ie (v : Word) : (s.setSp v).ie = s.ie := rfl
@[simp] theorem State.setSp_ifr (v : Word) : (s.setSp v).ifr = s.ifr := rfl
@[simp] theorem State.setSp_iof (v : Word) : (s.setSp v).iof = s.iof := rfl
@[simp] theorem State.setSp_rs (v : Word) : (s.setSp v).rs = s.rs := rfl
@[simp] theorem State.setSp_re (v : Word) : (s.setSp v).re = s.re := rfl
@[simp] theorem State.setSp_rc (v : Word) : (s.setSp v).rc = s.rc := rfl
@[simp] theorem State.setSp_pc (v : Word) : (s.setSp v).pc = s.pc := rfl
@[simp] theorem State.setSp_ir (v : Word) : (s.setSp v).ir = s.ir := rfl
@[simp] theorem State.setSp_rpts (v : Word) : (s.setSp v).rpts = s.rpts := rfl
@[simp] theorem State.setSp_pend (v : Word) : (s.setSp v).pend = s.pend := rfl
@[simp] theorem State.setSp_waiting (v : Word) : (s.setSp v).waiting = s.waiting := rfl
@[simp] theorem State.setSp_xf0 (v : Word) : (s.setSp v).xf0 = s.xf0 := rfl
@[simp] theorem State.setSp_lock (v : Word) : (s.setSp v).lock = s.lock := rfl
@[simp] theorem State.setSp_iack (v : Word) : (s.setSp v).iack = s.iack := rfl
@[simp] theorem State.setSp_clock (v : Word) : (s.setSp v).clock = s.clock := rfl
@[simp] theorem State.setSp_sources (v : Word) : (s.setSp v).sources = s.sources := rfl
@[simp] theorem State.setSp_mem (v : Word) : (s.setSp v).mem = s.mem := rfl
@[simp] theorem State.setSp_ran (v : Word) : (s.setSp v).ran = s.ran := rfl
@[simp] theorem State.setSp_stored (v : Word) : (s.setSp v).stored = s.stored := rfl
@[simp] theorem State.setSp_xf1 (v : Word) : (s.setSp v).xf1 = s.xf1 := rfl
@[simp] theorem State.setSp_rdyInt (v : Word) : (s.setSp v).rdyInt = s.rdyInt := rfl
@[simp] theorem State.setSp_xrdyInt (v : Word) : (s.setSp v).xrdyInt = s.xrdyInt := rfl
@[simp] theorem State.setSp_between (v : Word) : (s.setSp v).between = s.between := rfl
@[simp] theorem State.setSp_env (v : Word) : (s.setSp v).env = s.env := rfl
@[simp] theorem State.setSp_trace (v : Word) : (s.setSp v).trace = s.trace := rfl
@[simp] theorem State.setSp_draws (v : Word) : (s.setSp v).draws = s.draws := rfl
@[simp] theorem State.setSp_params (v : Word) : (s.setSp v).params = s.params := rfl

/-! ## `State.setPc` -/

@[simp] theorem State.setPc_r (a : Addr) : (s.setPc a).r = s.r := rfl
@[simp] theorem State.setPc_ar (a : Addr) : (s.setPc a).ar = s.ar := rfl
@[simp] theorem State.setPc_dp (a : Addr) : (s.setPc a).dp = s.dp := rfl
@[simp] theorem State.setPc_ir0 (a : Addr) : (s.setPc a).ir0 = s.ir0 := rfl
@[simp] theorem State.setPc_ir1 (a : Addr) : (s.setPc a).ir1 = s.ir1 := rfl
@[simp] theorem State.setPc_bk (a : Addr) : (s.setPc a).bk = s.bk := rfl
@[simp] theorem State.setPc_sp (a : Addr) : (s.setPc a).sp = s.sp := rfl
@[simp] theorem State.setPc_st (a : Addr) : (s.setPc a).st = s.st := rfl
@[simp] theorem State.setPc_ie (a : Addr) : (s.setPc a).ie = s.ie := rfl
@[simp] theorem State.setPc_ifr (a : Addr) : (s.setPc a).ifr = s.ifr := rfl
@[simp] theorem State.setPc_iof (a : Addr) : (s.setPc a).iof = s.iof := rfl
@[simp] theorem State.setPc_rs (a : Addr) : (s.setPc a).rs = s.rs := rfl
@[simp] theorem State.setPc_re (a : Addr) : (s.setPc a).re = s.re := rfl
@[simp] theorem State.setPc_rc (a : Addr) : (s.setPc a).rc = s.rc := rfl
@[simp] theorem State.setPc_pc (a : Addr) : (s.setPc a).pc = a := rfl
@[simp] theorem State.setPc_ir (a : Addr) : (s.setPc a).ir = s.ir := rfl
@[simp] theorem State.setPc_rpts (a : Addr) : (s.setPc a).rpts = s.rpts := rfl
@[simp] theorem State.setPc_pend (a : Addr) : (s.setPc a).pend = s.pend := rfl
@[simp] theorem State.setPc_waiting (a : Addr) : (s.setPc a).waiting = s.waiting := rfl
@[simp] theorem State.setPc_xf0 (a : Addr) : (s.setPc a).xf0 = s.xf0 := rfl
@[simp] theorem State.setPc_lock (a : Addr) : (s.setPc a).lock = s.lock := rfl
@[simp] theorem State.setPc_iack (a : Addr) : (s.setPc a).iack = s.iack := rfl
@[simp] theorem State.setPc_clock (a : Addr) : (s.setPc a).clock = s.clock := rfl
@[simp] theorem State.setPc_sources (a : Addr) : (s.setPc a).sources = s.sources := rfl
@[simp] theorem State.setPc_mem (a : Addr) : (s.setPc a).mem = s.mem := rfl
@[simp] theorem State.setPc_ran (a : Addr) : (s.setPc a).ran = s.ran := rfl
@[simp] theorem State.setPc_stored (a : Addr) : (s.setPc a).stored = s.stored := rfl
@[simp] theorem State.setPc_xf1 (a : Addr) : (s.setPc a).xf1 = s.xf1 := rfl
@[simp] theorem State.setPc_rdyInt (a : Addr) : (s.setPc a).rdyInt = s.rdyInt := rfl
@[simp] theorem State.setPc_xrdyInt (a : Addr) : (s.setPc a).xrdyInt = s.xrdyInt := rfl
@[simp] theorem State.setPc_between (a : Addr) : (s.setPc a).between = s.between := rfl
@[simp] theorem State.setPc_env (a : Addr) : (s.setPc a).env = s.env := rfl
@[simp] theorem State.setPc_trace (a : Addr) : (s.setPc a).trace = s.trace := rfl
@[simp] theorem State.setPc_draws (a : Addr) : (s.setPc a).draws = s.draws := rfl
@[simp] theorem State.setPc_params (a : Addr) : (s.setPc a).params = s.params := rfl

/-! ## `State.store` -/

@[simp] theorem State.store_r (a : Addr) (v : Word) : (s.store a v).r = s.r := rfl
@[simp] theorem State.store_ar (a : Addr) (v : Word) : (s.store a v).ar = s.ar := rfl
@[simp] theorem State.store_dp (a : Addr) (v : Word) : (s.store a v).dp = s.dp := rfl
@[simp] theorem State.store_ir0 (a : Addr) (v : Word) : (s.store a v).ir0 = s.ir0 := rfl
@[simp] theorem State.store_ir1 (a : Addr) (v : Word) : (s.store a v).ir1 = s.ir1 := rfl
@[simp] theorem State.store_bk (a : Addr) (v : Word) : (s.store a v).bk = s.bk := rfl
@[simp] theorem State.store_sp (a : Addr) (v : Word) : (s.store a v).sp = s.sp := rfl
@[simp] theorem State.store_st (a : Addr) (v : Word) : (s.store a v).st = s.st := rfl
@[simp] theorem State.store_ie (a : Addr) (v : Word) : (s.store a v).ie = s.ie := rfl
@[simp] theorem State.store_ifr (a : Addr) (v : Word) : (s.store a v).ifr = s.ifr := rfl
@[simp] theorem State.store_iof (a : Addr) (v : Word) : (s.store a v).iof = s.iof := rfl
@[simp] theorem State.store_rs (a : Addr) (v : Word) : (s.store a v).rs = s.rs := rfl
@[simp] theorem State.store_re (a : Addr) (v : Word) : (s.store a v).re = s.re := rfl
@[simp] theorem State.store_rc (a : Addr) (v : Word) : (s.store a v).rc = s.rc := rfl
@[simp] theorem State.store_pc (a : Addr) (v : Word) : (s.store a v).pc = s.pc := rfl
@[simp] theorem State.store_ir (a : Addr) (v : Word) : (s.store a v).ir = s.ir := rfl
@[simp] theorem State.store_rpts (a : Addr) (v : Word) : (s.store a v).rpts = s.rpts := rfl
@[simp] theorem State.store_pend (a : Addr) (v : Word) : (s.store a v).pend = s.pend := rfl
@[simp] theorem State.store_waiting (a : Addr) (v : Word) : (s.store a v).waiting = s.waiting := rfl
@[simp] theorem State.store_xf0 (a : Addr) (v : Word) : (s.store a v).xf0 = s.xf0 := rfl
@[simp] theorem State.store_lock (a : Addr) (v : Word) : (s.store a v).lock = s.lock := rfl
@[simp] theorem State.store_iack (a : Addr) (v : Word) : (s.store a v).iack = s.iack := rfl
@[simp] theorem State.store_clock (a : Addr) (v : Word) : (s.store a v).clock = s.clock := rfl
@[simp] theorem State.store_sources (a : Addr) (v : Word) : (s.store a v).sources = s.sources := rfl
@[simp] theorem State.store_mem (a : Addr) (v : Word) : (s.store a v).mem = s.mem.write a.toNat v := rfl
@[simp] theorem State.store_ran (a : Addr) (v : Word) : (s.store a v).ran = s.ran := rfl
@[simp] theorem State.store_stored (a : Addr) (v : Word) : (s.store a v).stored = noteAddr a.toNat s.stored := rfl
@[simp] theorem State.store_xf1 (a : Addr) (v : Word) : (s.store a v).xf1 = s.xf1 := rfl
@[simp] theorem State.store_rdyInt (a : Addr) (v : Word) : (s.store a v).rdyInt = s.rdyInt := rfl
@[simp] theorem State.store_xrdyInt (a : Addr) (v : Word) : (s.store a v).xrdyInt = s.xrdyInt := rfl
@[simp] theorem State.store_between (a : Addr) (v : Word) : (s.store a v).between = s.between := rfl
@[simp] theorem State.store_env (a : Addr) (v : Word) : (s.store a v).env = s.env := rfl
@[simp] theorem State.store_trace (a : Addr) (v : Word) : (s.store a v).trace = s.trace := rfl
@[simp] theorem State.store_draws (a : Addr) (v : Word) : (s.store a v).draws = s.draws := rfl
@[simp] theorem State.store_params (a : Addr) (v : Word) : (s.store a v).params = s.params := rfl

/-! ## `State.tick` -/

@[simp] theorem State.tick_r : s.tick.r = s.r := rfl
@[simp] theorem State.tick_ar : s.tick.ar = s.ar := rfl
@[simp] theorem State.tick_dp : s.tick.dp = s.dp := rfl
@[simp] theorem State.tick_ir0 : s.tick.ir0 = s.ir0 := rfl
@[simp] theorem State.tick_ir1 : s.tick.ir1 = s.ir1 := rfl
@[simp] theorem State.tick_bk : s.tick.bk = s.bk := rfl
@[simp] theorem State.tick_sp : s.tick.sp = s.sp := rfl
@[simp] theorem State.tick_st : s.tick.st = s.st := rfl
@[simp] theorem State.tick_ie : s.tick.ie = s.ie := rfl
@[simp] theorem State.tick_ifr : s.tick.ifr = s.ifr := rfl
@[simp] theorem State.tick_iof : s.tick.iof = s.iof := rfl
@[simp] theorem State.tick_rs : s.tick.rs = s.rs := rfl
@[simp] theorem State.tick_re : s.tick.re = s.re := rfl
@[simp] theorem State.tick_rc : s.tick.rc = s.rc := rfl
@[simp] theorem State.tick_pc : s.tick.pc = s.pc := rfl
@[simp] theorem State.tick_ir : s.tick.ir = s.ir := rfl
@[simp] theorem State.tick_rpts : s.tick.rpts = s.rpts := rfl
@[simp] theorem State.tick_pend : s.tick.pend = s.pend := rfl
@[simp] theorem State.tick_waiting : s.tick.waiting = s.waiting := rfl
@[simp] theorem State.tick_xf0 : s.tick.xf0 = s.xf0 := rfl
@[simp] theorem State.tick_lock : s.tick.lock = s.lock := rfl
@[simp] theorem State.tick_iack : s.tick.iack = s.iack := rfl
@[simp] theorem State.tick_clock : s.tick.clock = s.clock := rfl
@[simp] theorem State.tick_sources : s.tick.sources = s.sources := rfl
@[simp] theorem State.tick_mem : s.tick.mem = s.mem := rfl
@[simp] theorem State.tick_ran : s.tick.ran = s.ran := rfl
@[simp] theorem State.tick_stored : s.tick.stored = s.stored := rfl
@[simp] theorem State.tick_xf1 : s.tick.xf1 = s.xf1 := rfl
@[simp] theorem State.tick_rdyInt : s.tick.rdyInt = s.rdyInt := rfl
@[simp] theorem State.tick_xrdyInt : s.tick.xrdyInt = s.xrdyInt := rfl
@[simp] theorem State.tick_between : s.tick.between = s.between := rfl
@[simp] theorem State.tick_env : s.tick.env = s.env := rfl
@[simp] theorem State.tick_trace : s.tick.trace = s.trace := rfl
@[simp] theorem State.tick_draws : s.tick.draws = s.draws + 1 := rfl
@[simp] theorem State.tick_params : s.tick.params = s.params := rfl

/-! ## `State.driveXf0` -/

@[simp] theorem State.driveXf0_r (b : Bool) : (s.driveXf0 b).r = s.r := rfl
@[simp] theorem State.driveXf0_ar (b : Bool) : (s.driveXf0 b).ar = s.ar := rfl
@[simp] theorem State.driveXf0_dp (b : Bool) : (s.driveXf0 b).dp = s.dp := rfl
@[simp] theorem State.driveXf0_ir0 (b : Bool) : (s.driveXf0 b).ir0 = s.ir0 := rfl
@[simp] theorem State.driveXf0_ir1 (b : Bool) : (s.driveXf0 b).ir1 = s.ir1 := rfl
@[simp] theorem State.driveXf0_bk (b : Bool) : (s.driveXf0 b).bk = s.bk := rfl
@[simp] theorem State.driveXf0_sp (b : Bool) : (s.driveXf0 b).sp = s.sp := rfl
@[simp] theorem State.driveXf0_st (b : Bool) : (s.driveXf0 b).st = s.st := rfl
@[simp] theorem State.driveXf0_ie (b : Bool) : (s.driveXf0 b).ie = s.ie := rfl
@[simp] theorem State.driveXf0_ifr (b : Bool) : (s.driveXf0 b).ifr = s.ifr := rfl
@[simp] theorem State.driveXf0_iof (b : Bool) : (s.driveXf0 b).iof = s.iof := rfl
@[simp] theorem State.driveXf0_rs (b : Bool) : (s.driveXf0 b).rs = s.rs := rfl
@[simp] theorem State.driveXf0_re (b : Bool) : (s.driveXf0 b).re = s.re := rfl
@[simp] theorem State.driveXf0_rc (b : Bool) : (s.driveXf0 b).rc = s.rc := rfl
@[simp] theorem State.driveXf0_pc (b : Bool) : (s.driveXf0 b).pc = s.pc := rfl
@[simp] theorem State.driveXf0_ir (b : Bool) : (s.driveXf0 b).ir = s.ir := rfl
@[simp] theorem State.driveXf0_rpts (b : Bool) : (s.driveXf0 b).rpts = s.rpts := rfl
@[simp] theorem State.driveXf0_pend (b : Bool) : (s.driveXf0 b).pend = s.pend := rfl
@[simp] theorem State.driveXf0_waiting (b : Bool) : (s.driveXf0 b).waiting = s.waiting := rfl
@[simp] theorem State.driveXf0_xf0 (b : Bool) : (s.driveXf0 b).xf0 = b := rfl
@[simp] theorem State.driveXf0_lock (b : Bool) : (s.driveXf0 b).lock = if b then false else s.lock := rfl
@[simp] theorem State.driveXf0_iack (b : Bool) : (s.driveXf0 b).iack = s.iack := rfl
@[simp] theorem State.driveXf0_clock (b : Bool) : (s.driveXf0 b).clock = s.clock := rfl
@[simp] theorem State.driveXf0_sources (b : Bool) : (s.driveXf0 b).sources = s.sources := rfl
@[simp] theorem State.driveXf0_mem (b : Bool) : (s.driveXf0 b).mem = s.mem := rfl
@[simp] theorem State.driveXf0_ran (b : Bool) : (s.driveXf0 b).ran = s.ran := rfl
@[simp] theorem State.driveXf0_stored (b : Bool) : (s.driveXf0 b).stored = s.stored := rfl
@[simp] theorem State.driveXf0_xf1 (b : Bool) : (s.driveXf0 b).xf1 = s.xf1 := rfl
@[simp] theorem State.driveXf0_rdyInt (b : Bool) : (s.driveXf0 b).rdyInt = s.rdyInt := rfl
@[simp] theorem State.driveXf0_xrdyInt (b : Bool) : (s.driveXf0 b).xrdyInt = s.xrdyInt := rfl
@[simp] theorem State.driveXf0_between (b : Bool) : (s.driveXf0 b).between = s.between := rfl
@[simp] theorem State.driveXf0_env (b : Bool) : (s.driveXf0 b).env = s.env := rfl
@[simp] theorem State.driveXf0_trace (b : Bool) : (s.driveXf0 b).trace = .xf0 b :: s.trace := rfl
@[simp] theorem State.driveXf0_draws (b : Bool) : (s.driveXf0 b).draws = s.draws := rfl
@[simp] theorem State.driveXf0_params (b : Bool) : (s.driveXf0 b).params = s.params := rfl

/-! ## `State.acquire` -/

@[simp] theorem State.acquire_r : s.acquire.r = s.r := rfl
@[simp] theorem State.acquire_ar : s.acquire.ar = s.ar := rfl
@[simp] theorem State.acquire_dp : s.acquire.dp = s.dp := rfl
@[simp] theorem State.acquire_ir0 : s.acquire.ir0 = s.ir0 := rfl
@[simp] theorem State.acquire_ir1 : s.acquire.ir1 = s.ir1 := rfl
@[simp] theorem State.acquire_bk : s.acquire.bk = s.bk := rfl
@[simp] theorem State.acquire_sp : s.acquire.sp = s.sp := rfl
@[simp] theorem State.acquire_st : s.acquire.st = s.st := rfl
@[simp] theorem State.acquire_ie : s.acquire.ie = s.ie := rfl
@[simp] theorem State.acquire_ifr : s.acquire.ifr = s.ifr := rfl
@[simp] theorem State.acquire_iof : s.acquire.iof = s.iof := rfl
@[simp] theorem State.acquire_rs : s.acquire.rs = s.rs := rfl
@[simp] theorem State.acquire_re : s.acquire.re = s.re := rfl
@[simp] theorem State.acquire_rc : s.acquire.rc = s.rc := rfl
@[simp] theorem State.acquire_pc : s.acquire.pc = s.pc := rfl
@[simp] theorem State.acquire_ir : s.acquire.ir = s.ir := rfl
@[simp] theorem State.acquire_rpts : s.acquire.rpts = s.rpts := rfl
@[simp] theorem State.acquire_pend : s.acquire.pend = s.pend := rfl
@[simp] theorem State.acquire_waiting : s.acquire.waiting = s.waiting := rfl
@[simp] theorem State.acquire_xf0 : s.acquire.xf0 = s.xf0 := rfl
@[simp] theorem State.acquire_lock : s.acquire.lock = true := rfl
@[simp] theorem State.acquire_iack : s.acquire.iack = s.iack := rfl
@[simp] theorem State.acquire_clock : s.acquire.clock = s.clock := rfl
@[simp] theorem State.acquire_sources : s.acquire.sources = s.sources := rfl
@[simp] theorem State.acquire_mem : s.acquire.mem = s.mem := rfl
@[simp] theorem State.acquire_ran : s.acquire.ran = s.ran := rfl
@[simp] theorem State.acquire_stored : s.acquire.stored = s.stored := rfl
@[simp] theorem State.acquire_xf1 : s.acquire.xf1 = s.xf1 := rfl
@[simp] theorem State.acquire_rdyInt : s.acquire.rdyInt = s.rdyInt := rfl
@[simp] theorem State.acquire_xrdyInt : s.acquire.xrdyInt = s.xrdyInt := rfl
@[simp] theorem State.acquire_between : s.acquire.between = s.between := rfl
@[simp] theorem State.acquire_env : s.acquire.env = s.env := rfl
@[simp] theorem State.acquire_trace : s.acquire.trace = s.trace := rfl
@[simp] theorem State.acquire_draws : s.acquire.draws = s.draws := rfl
@[simp] theorem State.acquire_params : s.acquire.params = s.params := rfl

/-! ## `State.driveIack` -/

@[simp] theorem State.driveIack_r (b : Bool) : (s.driveIack b).r = s.r := rfl
@[simp] theorem State.driveIack_ar (b : Bool) : (s.driveIack b).ar = s.ar := rfl
@[simp] theorem State.driveIack_dp (b : Bool) : (s.driveIack b).dp = s.dp := rfl
@[simp] theorem State.driveIack_ir0 (b : Bool) : (s.driveIack b).ir0 = s.ir0 := rfl
@[simp] theorem State.driveIack_ir1 (b : Bool) : (s.driveIack b).ir1 = s.ir1 := rfl
@[simp] theorem State.driveIack_bk (b : Bool) : (s.driveIack b).bk = s.bk := rfl
@[simp] theorem State.driveIack_sp (b : Bool) : (s.driveIack b).sp = s.sp := rfl
@[simp] theorem State.driveIack_st (b : Bool) : (s.driveIack b).st = s.st := rfl
@[simp] theorem State.driveIack_ie (b : Bool) : (s.driveIack b).ie = s.ie := rfl
@[simp] theorem State.driveIack_ifr (b : Bool) : (s.driveIack b).ifr = s.ifr := rfl
@[simp] theorem State.driveIack_iof (b : Bool) : (s.driveIack b).iof = s.iof := rfl
@[simp] theorem State.driveIack_rs (b : Bool) : (s.driveIack b).rs = s.rs := rfl
@[simp] theorem State.driveIack_re (b : Bool) : (s.driveIack b).re = s.re := rfl
@[simp] theorem State.driveIack_rc (b : Bool) : (s.driveIack b).rc = s.rc := rfl
@[simp] theorem State.driveIack_pc (b : Bool) : (s.driveIack b).pc = s.pc := rfl
@[simp] theorem State.driveIack_ir (b : Bool) : (s.driveIack b).ir = s.ir := rfl
@[simp] theorem State.driveIack_rpts (b : Bool) : (s.driveIack b).rpts = s.rpts := rfl
@[simp] theorem State.driveIack_pend (b : Bool) : (s.driveIack b).pend = s.pend := rfl
@[simp] theorem State.driveIack_waiting (b : Bool) : (s.driveIack b).waiting = s.waiting := rfl
@[simp] theorem State.driveIack_xf0 (b : Bool) : (s.driveIack b).xf0 = s.xf0 := rfl
@[simp] theorem State.driveIack_lock (b : Bool) : (s.driveIack b).lock = s.lock := rfl
@[simp] theorem State.driveIack_iack (b : Bool) : (s.driveIack b).iack = b := rfl
@[simp] theorem State.driveIack_clock (b : Bool) : (s.driveIack b).clock = s.clock := rfl
@[simp] theorem State.driveIack_sources (b : Bool) : (s.driveIack b).sources = s.sources := rfl
@[simp] theorem State.driveIack_mem (b : Bool) : (s.driveIack b).mem = s.mem := rfl
@[simp] theorem State.driveIack_ran (b : Bool) : (s.driveIack b).ran = s.ran := rfl
@[simp] theorem State.driveIack_stored (b : Bool) : (s.driveIack b).stored = s.stored := rfl
@[simp] theorem State.driveIack_xf1 (b : Bool) : (s.driveIack b).xf1 = s.xf1 := rfl
@[simp] theorem State.driveIack_rdyInt (b : Bool) : (s.driveIack b).rdyInt = s.rdyInt := rfl
@[simp] theorem State.driveIack_xrdyInt (b : Bool) : (s.driveIack b).xrdyInt = s.xrdyInt := rfl
@[simp] theorem State.driveIack_between (b : Bool) : (s.driveIack b).between = s.between := rfl
@[simp] theorem State.driveIack_env (b : Bool) : (s.driveIack b).env = s.env := rfl
@[simp] theorem State.driveIack_trace (b : Bool) : (s.driveIack b).trace = .iack b :: s.trace := rfl
@[simp] theorem State.driveIack_draws (b : Bool) : (s.driveIack b).draws = s.draws := rfl
@[simp] theorem State.driveIack_params (b : Bool) : (s.driveIack b).params = s.params := rfl

/-! ## Reads after updates -/

@[simp] theorem State.rn_setR (n m : Rn) (x : Ext) : (s.setR n x).rn m = if n = m then x else s.rn m := by
  simp only [State.rn, State.setR, Fin.getElem_fin, Vector.getElem_set, Fin.val_inj]

@[simp] theorem State.arn_setAr (n m : ARn) (v : Word) : (s.setAr n v).arn m = if n = m then v else s.arn m := by
  simp only [State.arn, State.setAr, Fin.getElem_fin, Vector.getElem_set, Fin.val_inj]

/-- Two register files that agree at every register are equal. -/
theorem regs_ext {α : Type} {x y : Vector α 8} (h : ∀ n : Fin 8, x[n] = y[n]) : x = y :=
  Vector.ext fun i hi => h ⟨i, hi⟩

@[simp] theorem State.arn_setR (j : ARn) (n : Rn) (x : Ext) : (s.setR n x).arn j = s.arn j := rfl
@[simp] theorem State.kindAt_setR (a : Addr) (n : Rn) (x : Ext) : (s.setR n x).kindAt a = s.kindAt a := rfl
@[simp] theorem State.inProgram_setR (a : Addr) (n : Rn) (x : Ext) : (s.setR n x).inProgram a = s.inProgram a := rfl
@[simp] theorem State.rn_setAr (j : Rn) (n : ARn) (v : Word) : (s.setAr n v).rn j = s.rn j := rfl
@[simp] theorem State.kindAt_setAr (a : Addr) (n : ARn) (v : Word) : (s.setAr n v).kindAt a = s.kindAt a := rfl
@[simp] theorem State.inProgram_setAr (a : Addr) (n : ARn) (v : Word) : (s.setAr n v).inProgram a = s.inProgram a := rfl
@[simp] theorem State.rn_setSt (j : Rn) (x : Status) : (s.setSt x).rn j = s.rn j := rfl
@[simp] theorem State.arn_setSt (j : ARn) (x : Status) : (s.setSt x).arn j = s.arn j := rfl
@[simp] theorem State.kindAt_setSt (a : Addr) (x : Status) : (s.setSt x).kindAt a = s.kindAt a := rfl
@[simp] theorem State.inProgram_setSt (a : Addr) (x : Status) : (s.setSt x).inProgram a = s.inProgram a := rfl
@[simp] theorem State.rn_setSp (j : Rn) (v : Word) : (s.setSp v).rn j = s.rn j := rfl
@[simp] theorem State.arn_setSp (j : ARn) (v : Word) : (s.setSp v).arn j = s.arn j := rfl
@[simp] theorem State.kindAt_setSp (a : Addr) (v : Word) : (s.setSp v).kindAt a = s.kindAt a := rfl
@[simp] theorem State.inProgram_setSp (a : Addr) (v : Word) : (s.setSp v).inProgram a = s.inProgram a := rfl
@[simp] theorem State.rn_setPc (j : Rn) (a : Addr) : (s.setPc a).rn j = s.rn j := rfl
@[simp] theorem State.arn_setPc (j : ARn) (a : Addr) : (s.setPc a).arn j = s.arn j := rfl
@[simp] theorem State.kindAt_setPc (a : Addr) (a1 : Addr) : (s.setPc a1).kindAt a = s.kindAt a := rfl
@[simp] theorem State.inProgram_setPc (a : Addr) (a1 : Addr) : (s.setPc a1).inProgram a = s.inProgram a := rfl
@[simp] theorem State.rn_store (j : Rn) (a : Addr) (v : Word) : (s.store a v).rn j = s.rn j := rfl
@[simp] theorem State.arn_store (j : ARn) (a : Addr) (v : Word) : (s.store a v).arn j = s.arn j := rfl
@[simp] theorem State.kindAt_store (b : Addr) (a : Addr) (v : Word) : (s.store a v).kindAt b = s.kindAt b := rfl
@[simp] theorem State.inProgram_store (b : Addr) (a : Addr) (v : Word) : (s.store a v).inProgram b = s.inProgram b := rfl
@[simp] theorem State.rn_tick (j : Rn) : s.tick.rn j = s.rn j := rfl
@[simp] theorem State.arn_tick (j : ARn) : s.tick.arn j = s.arn j := rfl
@[simp] theorem State.kindAt_tick (a : Addr) : s.tick.kindAt a = s.kindAt a := rfl
@[simp] theorem State.inProgram_tick (a : Addr) : s.tick.inProgram a = s.inProgram a := rfl
@[simp] theorem State.rn_driveXf0 (j : Rn) (b : Bool) : (s.driveXf0 b).rn j = s.rn j := rfl
@[simp] theorem State.arn_driveXf0 (j : ARn) (b : Bool) : (s.driveXf0 b).arn j = s.arn j := rfl
@[simp] theorem State.kindAt_driveXf0 (a : Addr) (b : Bool) : (s.driveXf0 b).kindAt a = s.kindAt a := rfl
@[simp] theorem State.inProgram_driveXf0 (a : Addr) (b : Bool) : (s.driveXf0 b).inProgram a = s.inProgram a := rfl
@[simp] theorem State.inProgram_acquire (a : Addr) : s.acquire.inProgram a = s.inProgram a := rfl
@[simp] theorem State.kindAt_acquire (a : Addr) : s.acquire.kindAt a = s.kindAt a := rfl
@[simp] theorem State.arn_acquire (j : ARn) : s.acquire.arn j = s.arn j := rfl
@[simp] theorem State.rn_acquire (j : Rn) : s.acquire.rn j = s.rn j := rfl
@[simp] theorem State.rn_driveIack (j : Rn) (b : Bool) : (s.driveIack b).rn j = s.rn j := rfl
@[simp] theorem State.arn_driveIack (j : ARn) (b : Bool) : (s.driveIack b).arn j = s.arn j := rfl
@[simp] theorem State.kindAt_driveIack (a : Addr) (b : Bool) : (s.driveIack b).kindAt a = s.kindAt a := rfl
@[simp] theorem State.inProgram_driveIack (a : Addr) (b : Bool) : (s.driveIack b).inProgram a = s.inProgram a := rfl

end Sys2Proof.Machine
end

