-- ==== Sys2Proof/Laws/Ops.lean ====
section
/-! SUPPORT. What each shared operation of Machine/Ops.lean can do, said once. -/

namespace Sys2Proof.Machine

/-! ## Results of operations -/

theorem bind_ok {α β : Type} {x : Res α} {f : α → Res β} {b : β} :
    (x >>= f) = .ok b ↔ ∃ a, x = .ok a ∧ f a = .ok b := by
  cases x <;> simp [bind, Except.bind]

@[simp] theorem ok_bind {α β : Type} (a : α) (f : α → Res β) : ((Except.ok a : Res α) >>= f) = f a := rfl

@[simp] theorem error_bind {α β : Type} (e : Refusal) (f : α → Res β) :
    ((Except.error e : Res α) >>= f) = .error e := rfl

theorem toOutcome_next {x : Res State} {t : State} : toOutcome x = .next t ↔ x = .ok t := by
  unfold toOutcome
  split <;> simp

@[simp] theorem toOutcome_ok (t : State) : toOutcome (.ok t) = .next t := rfl

@[simp] theorem toOutcome_refuse (r : Refusal) : toOutcome (refuse r) = .refused r := rfl

@[simp] theorem refuse_ne_ok {α : Type} (r : Refusal) (a : α) : refuse r ≠ .ok a := by simp [refuse]

@[simp] theorem need_ok {b : Bool} {r : Refusal} {u : Unit} : need b r = .ok u ↔ b = true := by
  unfold need
  split <;> simp_all

theorem need_bind_ok {β : Type} {b : Bool} {r : Refusal} {f : Unit → Res β} {c : β} :
    (need b r >>= f) = .ok c ↔ b = true ∧ f () = .ok c := by
  rw [bind_ok]
  constructor
  · rintro ⟨u, h, hf⟩
    exact ⟨need_ok.1 h, hf⟩
  · rintro ⟨h, hf⟩
    exact ⟨(), need_ok.2 h, hf⟩

@[simp] theorem need_true (r : Refusal) : need true r = .ok () := rfl

@[simp] theorem need_false (r : Refusal) : need false r = refuse r := rfl

@[simp] theorem refuse_bind {α β : Type} (r : Refusal) (f : α → Res β) : (refuse r >>= f) = refuse r := rfl

/-! ## Memory accesses -/

/-- A read uses up at most a draw. -/
theorem memRead_cases {a : Addr} {s s' : State} {w : Word} (h : memRead a s = .ok (w, s')) :
    s.kindAt a ≠ .unmapped ∧
      ((s.kindAt a = .peripheral ∧ w = Config.freeWord s.draws ∧ s' = s.tick) ∨
        (s.kindAt a ≠ .peripheral ∧ w = s.mem.read a.toNat ∧ s' = s)) := by
  unfold memRead drawWord at h
  split at h <;> simp only [refuse_ne_ok, Except.ok.injEq, Prod.mk.injEq] at h
  all_goals
    obtain ⟨rfl, rfl⟩ := h
    simp [*]

theorem memRead_frame {a : Addr} {s s' : State} {w : Word} (h : memRead a s = .ok (w, s')) :
    ∃ d, s' = { s with draws := d } := by
  rcases memRead_cases h with ⟨-, ⟨-, -, rfl⟩ | ⟨-, -, rfl⟩⟩
  · exact ⟨_, rfl⟩
  · exact ⟨_, rfl⟩

/-- A read of a word that is not a peripheral's. -/
theorem memRead_plain {a : Addr} {s : State} (h : s.kindAt a ≠ .unmapped) (hp : s.kindAt a ≠ .peripheral) :
    memRead a s = .ok (s.mem.read a.toNat, s) := by
  unfold memRead
  split <;> simp_all

/-- A write stores the word, at a mapped address outside the program. -/
theorem memWrite_ok {a : Addr} {v : Word} {s s' : State} :
    memWrite a v s = .ok s' ↔
      s.kindAt a ≠ .unmapped ∧ s.inProgram a = false ∧ s' = s.store a v := by
  have e : ∀ u : State, (Except.ok u : Res State) = .ok s' ↔ s' = u := fun u => by
    rw [Except.ok.injEq, eq_comm]
  unfold memWrite
  split
  · simp [*]
  all_goals
    split <;> simp [*]

theorem memWrite_plain {a : Addr} {s : State} (v : Word) (h : s.kindAt a ≠ .unmapped) (hp : s.inProgram a = false) :
    memWrite a v s = .ok (s.store a v) := memWrite_ok.2 ⟨h, hp, rfl⟩

/-! ## Registers -/

theorem readInt_named {r : Reg} {s : State} {v : Word} (h : readInt r s = .ok v) : namedReg r = true := by
  cases r <;> simp_all [readInt, namedReg]

theorem readInt_of_named {r : Reg} (s : State) (h : namedReg r = true) : ∃ v, readInt r s = .ok v := by
  cases r <;> simp_all [readInt, namedReg]

theorem writeInt_named {r : Reg} {v : Word} {s s' : State} (h : writeInt r v s = .ok s') : namedReg r = true := by
  cases r <;> simp_all [writeInt, namedReg]

/-- A register can be written unless it is IE, IF or IOF, or ST with a word that sets OVM. -/
theorem writeInt_of_named {r : Reg} {v : Word} (s : State) (h : namedReg r = true)
    (hst : r = .st → (Status.ofWord s.params.stLayout v).ovm = false) : ∃ s', writeInt r v s = .ok s' := by
  cases r <;> simp_all [writeInt, namedReg]

/-- A register write changes that register's place and nothing else. -/
theorem writeInt_frame {r : Reg} {v : Word} {s s' : State} (h : writeInt r v s = .ok s') :
    s' = { s with
      r := s'.r, ar := s'.ar, dp := s'.dp, ir0 := s'.ir0, ir1 := s'.ir1, bk := s'.bk, sp := s'.sp, st := s'.st,
      rs := s'.rs, re := s'.re, rc := s'.rc } := by
  cases r <;> simp only [writeInt, refuse_ne_ok] at h
  case st =>
    split at h
    · simp at h
    · injection h with h
      subst h
      rfl
  all_goals
    injection h with h
    subst h
    rfl

/-! ## The stack -/

theorem push_ok {v : Word} {s s' : State} :
    push v s = .ok s' ↔
      s.kindAt (low24 (s.sp + 1)) ≠ .unmapped ∧ s.inProgram (low24 (s.sp + 1)) = false ∧
        s' = (s.setSp (s.sp + 1)).store (low24 (s.sp + 1)) v := by
  simp [push, memWrite_ok]

theorem pop_ok {v : Word} {s s' : State} :
    pop s = .ok (v, s') ↔ ∃ s1, memRead (low24 s.sp) s = .ok (v, s1) ∧ s' = s1.setSp (s.sp - 1) := by
  unfold pop
  rw [bind_ok]
  constructor
  · rintro ⟨⟨w, s1⟩, h, h'⟩
    simp only [Except.ok.injEq, Prod.mk.injEq] at h'
    obtain ⟨rfl, rfl⟩ := h'
    exact ⟨s1, h, rfl⟩
  · rintro ⟨s1, h, rfl⟩
    exact ⟨(v, s1), h, rfl⟩

/-! ## What follows an instruction -/

/-- The end of an instruction changes PC, the pending branch, the RPTS phase, and, at the end of a repeated
block, RC, RM and the count of draws. -/
theorem sequential_frame (s : State) :
    sequential s =
      { s with pc := (sequential s).pc, pend := (sequential s).pend, rpts := (sequential s).rpts,
               rc := (sequential s).rc, draws := (sequential s).draws,
               st := { s.st with rm := (sequential s).st.rm } } := by
  unfold sequential
  split
  · split
    · simp [endRepeat, drawBit, State.tick]
    · rfl
  · rfl

theorem sequential_of_not_end {s : State} (h : s.atRepeatEnd = false) :
    sequential s = { s with pc := s.following, pend := Pending.advance s.pend, rpts := .off } := by
  simp [sequential, h]

theorem sequential_plain {s : State} (h : s.atRepeatEnd = false) (hp : s.pend = none) :
    sequential s = { s with pc := s.pc + 1, pend := none, rpts := .off } := by
  simp [sequential_of_not_end h, State.following, Pending.advance, hp]

theorem guardControl_ok {s : State} {u : Unit} : guardControl s = .ok u ↔ s.pend = none ∧ s.rpts = .off := by
  simp [guardControl, need_bind_ok]

theorem guardControl_bind_ok {β : Type} {s : State} {f : Unit → Res β} {c : β} :
    (guardControl s >>= f) = .ok c ↔ (s.pend = none ∧ s.rpts = .off) ∧ f () = .ok c := by
  rw [bind_ok]
  constructor
  · rintro ⟨u, h, hf⟩
    exact ⟨guardControl_ok.1 h, hf⟩
  · rintro ⟨h, hf⟩
    exact ⟨(), guardControl_ok.2 h, hf⟩

/-! ## Other agents -/

theorem agentMay_not_inProgram {s : State} {a : Addr} (h : s.agentMay a = true) : s.inProgram a = false := by
  simp_all [State.agentMay]

theorem agentMay_false {s : State} {a : Addr} :
    s.agentMay a = false ↔ s.shared a = false ∨ s.inProgram a = true ∨ s.locked a = true := by
  unfold State.agentMay
  cases s.shared a <;> cases s.inProgram a <;> cases s.locked a <;> simp

/-- Other agents change memory, at addresses they are said to write, outside internal memory, the program and what the
interlock protects. -/
theorem outsideWrites_frame (l : List (Addr × Word)) (s : State) :
    ∃ m d, outsideWrites l s = { s with mem := m, stored := d } ∧
      (∀ a : Nat, (∀ p ∈ l, p.1.toNat ≠ a) → m.read a = s.mem.read a) ∧
      (∀ a : Addr, s.agentMay a = false → m.read a.toNat = s.mem.read a.toNat) ∧
      (∀ a ∈ d, a ∈ s.stored ∨ ∃ p ∈ l, p.1.toNat = a ∧ s.inProgram p.1 = false) ∧
      (s.mem.wf = true → m.wf = true) := by
  induction l generalizing s with
  | nil => exact ⟨s.mem, s.stored, rfl, fun _ _ => rfl, fun _ _ => rfl, fun _ h => .inl h, id⟩
  | cons p t ih =>
    obtain ⟨b, v⟩ := p
    simp only [outsideWrites]
    split
    · next hc =>
      obtain ⟨m, d, e, h1, h2, h3, h4⟩ := ih (s.store b v)
      refine ⟨m, d, e, fun a ha => ?_, fun a ha => ?_, fun a ha => ?_, fun h => h4 (Memory.write_addr_wf _ _ _ h)⟩
      · rw [h1 a fun p hp => ha p (List.mem_cons_of_mem _ hp)]
        exact Memory.read_write_of_ne _ _ (ha _ List.mem_cons_self)
      · rw [h2 a ha]
        refine Memory.read_write_of_ne _ _ fun h => ?_
        rw [← BitVec.eq_of_toNat_eq h, hc] at ha
        simp at ha
      · rcases h3 a ha with h | ⟨p, hp, h⟩
        · rcases mem_noteAddr.1 h with rfl | h
          · exact .inr ⟨_, List.mem_cons_self, rfl, agentMay_not_inProgram hc⟩
          · exact .inl h
        · exact .inr ⟨p, List.mem_cons_of_mem _ hp, h⟩
    · obtain ⟨m, d, e, h1, h2, h3, h4⟩ := ih s
      refine ⟨m, d, e, fun a ha => h1 a fun p hp => ha p (List.mem_cons_of_mem _ hp), h2, fun a ha => ?_, h4⟩
      rcases h3 a ha with h | ⟨p, hp, h⟩
      · exact .inl h
      · exact .inr ⟨p, List.mem_cons_of_mem _ hp, h⟩

@[simp] theorem outsideWrites_nil (s : State) : outsideWrites [] s = s := rfl

@[simp] theorem agentsAct_none {s : State} (h : s.between = []) : agentsAct s = s := by
  cases s
  subst h
  rfl

/-! ## Exceptions -/

theorem enter_ok {ret t : Addr} {s s' : State} :
    enter ret t s = .ok s' ↔
      s.kindAt (low24 (s.sp + 1)) ≠ .unmapped ∧ s.inProgram (low24 (s.sp + 1)) = false ∧
        s' = { ({ s with sp := s.sp + 1 } : State).store (low24 (s.sp + 1)) (zext32 ret) with
                 st := { s.st with gie := false }, pc := t } := by
  unfold enter
  rw [bind_ok]
  simp only [push_ok]
  constructor
  · rintro ⟨s1, ⟨h1, h2, rfl⟩, h⟩
    exact ⟨h1, h2, (Except.ok.inj h).symm⟩
  · rintro ⟨h1, h2, rfl⟩
    exact ⟨_, ⟨h1, h2, rfl⟩, rfl⟩

theorem vectorAddress_frame {v : VectorRef} {s s' : State} {t : Addr} (h : vectorAddress v s = .ok (t, s')) :
    ∃ d, s' = { s with draws := d } := by
  cases v with
  | fixed a =>
    simp only [vectorAddress, Except.ok.injEq, Prod.mk.injEq] at h
    exact ⟨_, h.2.symm⟩
  | cell a =>
    simp only [vectorAddress, bind_ok] at h
    obtain ⟨⟨w, s1⟩, h1, h2⟩ := h
    simp only [Except.ok.injEq, Prod.mk.injEq] at h2
    exact h2.2 ▸ memRead_frame h1

theorem trapVector_frame {n : Nat} {s s' : State} {t : Addr} (h : trapVector n s = .ok (t, s')) :
    s.hasTrap n = true ∧ ∃ d, s' = { s with draws := d } := by
  simp only [trapVector, need_bind_ok] at h
  refine ⟨h.1, ?_⟩
  have h := h.2
  split at h
  · simp only [Except.ok.injEq, Prod.mk.injEq] at h
    exact ⟨_, h.2.symm⟩
  · simp only [bind_ok] at h
    obtain ⟨⟨w, s1⟩, h1, h2⟩ := h
    simp only [Except.ok.injEq, Prod.mk.injEq] at h2
    exact h2.2 ▸ memRead_frame h1

/-! ## Interrupt sources -/

/-- Changing one source changes that place of the list and no other. -/
theorem getElem?_setSource (f : Source → Source) (i j : Nat) (l : List Source) :
    (setSource f i l)[j]? = if i = j then l[j]?.map f else l[j]? := by
  induction l generalizing i j with
  | nil => simp [setSource]
  | cons x t ih =>
    cases i with
    | zero => cases j <;> simp [setSource]
    | succ i => cases j <;> simp [setSource, ih]

/-- The first source is enabled and pending, none before it is both, and its number counts from the list's first. -/
theorem firstSource_some {l : List Source} {k i : Nat} {v : VectorRef} (h : firstSource l k = some (i, v)) :
    k ≤ i ∧ (∃ x, l[i - k]? = some x ∧ x.enabled = true ∧ x.pending = true ∧ x.vector = v) ∧
      ∀ j x, j < i - k → l[j]? = some x → (x.enabled && x.pending) = false := by
  induction l generalizing k with
  | nil => simp [firstSource] at h
  | cons y t ih =>
    simp only [firstSource] at h
    split at h
    · next ha =>
      simp only [Option.some.injEq, Prod.mk.injEq] at h
      obtain ⟨rfl, rfl⟩ := h
      rw [Bool.and_eq_true] at ha
      exact ⟨Nat.le_refl _, ⟨y, by simp, ha.1, ha.2, rfl⟩, fun j _ hj => by omega⟩
    · next ha =>
      obtain ⟨h1, ⟨x, h2, h3⟩, h4⟩ := ih h
      have e : i - k = (i - (k + 1)) + 1 := by omega
      refine ⟨by omega, ⟨x, by rw [e]; simpa using h2, h3⟩, fun j z hj hz => ?_⟩
      cases j with
      | zero =>
        simp only [List.getElem?_cons_zero, Option.some.injEq] at hz
        subst hz
        simpa using ha
      | succ j => exact h4 j z (by omega) (by simpa using hz)

theorem takeable_some {s : State} {i : Nat} {v : VectorRef} (h : s.takeable = some (i, v)) :
    s.st.gie = true ∧ s.pend = none ∧ s.rpts = .off ∧ firstSource s.sources 0 = some (i, v) := by
  unfold State.takeable at h
  split at h
  · simp_all
  · simp at h

end Sys2Proof.Machine
end

