-- ==== Sys2Proof/Laws/Flags.lean ====
section
/-! SUPPORT. What writing a result does, and each flag after each kind of result. -/

namespace Sys2Proof.Machine

/-! ## The flags -/

@[simp] theorem flagAfter_keep (old new : Bool) : flagAfter .keep old new = old := rfl
@[simp] theorem flagAfter_clear (old new : Bool) : flagAfter .clear old new = false := rfl
@[simp] theorem flagAfter_write (old new : Bool) : flagAfter .write old new = new := rfl
@[simp] theorem flagAfter_accumulate (old new : Bool) : flagAfter .accumulate old new = (old || new) := rfl

section flags

variable (st : Status) (w : FlagRow) (f : NewFlags) (k : FlagClass) (s : State)

@[simp] theorem Status.update_c : (st.update w f).c = flagAfter w.c st.c (f.c.getD st.c) := rfl
@[simp] theorem Status.update_v : (st.update w f).v = flagAfter w.v st.v f.v := rfl
@[simp] theorem Status.update_z : (st.update w f).z = flagAfter w.z st.z f.z := rfl
@[simp] theorem Status.update_n : (st.update w f).n = flagAfter w.n st.n f.n := rfl
@[simp] theorem Status.update_uf : (st.update w f).uf = flagAfter w.uf st.uf f.uf := rfl
@[simp] theorem Status.update_lv : (st.update w f).lv = flagAfter w.lv st.lv f.v := rfl
@[simp] theorem Status.update_luf : (st.update w f).luf = flagAfter w.luf st.luf f.uf := rfl
@[simp] theorem Status.update_ovm : (st.update w f).ovm = st.ovm := rfl
@[simp] theorem Status.update_rm : (st.update w f).rm = st.rm := rfl
@[simp] theorem Status.update_cf : (st.update w f).cf = st.cf := rfl
@[simp] theorem Status.update_ce : (st.update w f).ce = st.ce := rfl
@[simp] theorem Status.update_cc : (st.update w f).cc = st.cc := rfl
@[simp] theorem Status.update_gie : (st.update w f).gie = st.gie := rfl
@[simp] theorem Status.updateC_c : (st.updateC w f).c = flagAfter w.c st.c (f.c.getD st.c) := rfl
@[simp] theorem Status.updateC_ovm : (st.updateC w f).ovm = st.ovm := rfl
@[simp] theorem Status.updateC_rm : (st.updateC w f).rm = st.rm := rfl
@[simp] theorem Status.updateC_gie : (st.updateC w f).gie = st.gie := rfl

/-- Flags change the status register alone, and of it the seven flags. -/
theorem putFlags_eq : putFlags k f s = s.setSt (s.st.update (flagRow s.params.flagPolicy k) f) := rfl

end flags

/-- Flags for any destination change the seven flags at most, and none where the destination is ST. -/
theorem putFlagsFor_frame (k : FlagClass) (dst : Reg) (f : NewFlags) (s : State) :
    ∃ st, putFlagsFor k dst f s = s.setSt st ∧ (dst = .st → st = s.st) ∧ st.ovm = s.st.ovm ∧ st.rm = s.st.rm ∧
      st.cf = s.st.cf ∧ st.ce = s.st.ce ∧ st.cc = s.st.cc ∧ st.gie = s.st.gie := by
  cases dst <;> simp only [putFlagsFor, putFlags]
  case st => exact ⟨s.st, rfl, fun _ => rfl, rfl, rfl, rfl, rfl, rfl, rfl⟩
  case r => exact ⟨_, rfl, by simp, rfl, rfl, rfl, rfl, rfl, rfl⟩
  all_goals
    split
    · exact ⟨_, rfl, by simp, rfl, rfl, rfl, rfl, rfl, rfl⟩
    · split
      · exact ⟨_, rfl, by simp, rfl, rfl, rfl, rfl, rfl, rfl⟩
      · exact ⟨s.st, rfl, by simp, rfl, rfl, rfl, rfl, rfl, rfl⟩

/-! ## Results written -/

/-- Into one of R0 to R7: the register and the flags. -/
@[simp] theorem putInt_reg (k : FlagClass) (n : Rn) (r : IntResult) (s : State) :
    putInt k (.r n) r s =
      .ok ((s.setR n (withInt (s.rn n) r.value)).setSt (s.st.update (flagRow s.params.flagPolicy k) r.flags)) := rfl

/-- Into ST: the written word wins. -/
theorem putInt_st (k : FlagClass) (r : IntResult) (s : State) : putInt k .st r s = writeInt .st r.value s := by
  unfold putInt
  cases writeInt .st r.value s <;> rfl

theorem putInt_named {k : FlagClass} {dst : Reg} {r : IntResult} {s s' : State} (h : putInt k dst r s = .ok s') :
    namedReg dst = true := by
  simp only [putInt, bind_ok] at h
  obtain ⟨s1, h1, -⟩ := h
  exact writeInt_named h1

/-- What a result written can change. -/
theorem putInt_frame {k : FlagClass} {dst : Reg} {r : IntResult} {s s' : State} (h : putInt k dst r s = .ok s') :
    s' = { s with
      r := s'.r, ar := s'.ar, dp := s'.dp, ir0 := s'.ir0, ir1 := s'.ir1, bk := s'.bk, sp := s'.sp, st := s'.st,
      rs := s'.rs, re := s'.re, rc := s'.rc } := by
  simp only [putInt, bind_ok, Except.ok.injEq] at h
  obtain ⟨s1, h1, rfl⟩ := h
  obtain ⟨st, e, -⟩ := putFlagsFor_frame k dst r.flags s1
  rw [e]
  have := writeInt_frame h1
  rw [this]
  rfl

theorem mulWords_frame (a b : Word) (s : State) : ∃ d, (mulWords a b s).2 = { s with draws := d } := by
  unfold mulWords
  split
  · exact ⟨s.draws, rfl⟩
  · exact ⟨_, rfl⟩

end Sys2Proof.Machine
end

