-- ==== Sys2Proof/Laws/Operands.lean ====
section
/-! SUPPORT. What evaluating an operand can do: it updates auxiliary registers that its forms modify, and uses
up draws (spec/41_addressing_modes.md R223). -/

namespace Sys2Proof.Machine

/-- Nothing differs but the draws and the auxiliary registers that `c` allows. -/
def OnlyAux (c : ARn → Bool) (s s' : State) : Prop :=
  ∃ (ar : Vector Word 8) (d : Nat), s' = { s with ar := ar, draws := d } ∧ ∀ n : ARn, c n = false → ar[n] = s.ar[n]

theorem OnlyAux.refl (c : ARn → Bool) (s : State) : OnlyAux c s s := ⟨s.ar, s.draws, rfl, fun _ _ => rfl⟩

theorem OnlyAux.weaken {c c' : ARn → Bool} {s s' : State} (h : OnlyAux c s s') (hc : ∀ n, c' n = false → c n = false) :
    OnlyAux c' s s' := by
  obtain ⟨ar, d, rfl, ha⟩ := h
  exact ⟨ar, d, rfl, fun n hn => ha n (hc n hn)⟩

theorem OnlyAux.trans {c c' : ARn → Bool} {s s1 s2 : State} (h : OnlyAux c s s1) (h' : OnlyAux c' s1 s2) :
    OnlyAux (fun n => c n || c' n) s s2 := by
  obtain ⟨ar, d, rfl, ha⟩ := h
  obtain ⟨ar', d', rfl, ha'⟩ := h'
  refine ⟨ar', d', rfl, fun n hn => ?_⟩
  rw [Bool.or_eq_false_iff] at hn
  rw [ha' n hn.2]
  exact ha n hn.1

theorem OnlyAux.of_draws {c : ARn → Bool} {s s' : State} (h : ∃ d, s' = { s with draws := d }) : OnlyAux c s s' := by
  obtain ⟨d, rfl⟩ := h
  exact ⟨s.ar, d, rfl, fun _ _ => rfl⟩

theorem onlyAux_setAr (s : State) (m : ARn) (v : Word) {c : ARn → Bool} (hc : c m = true) : OnlyAux c s (s.setAr m v) := by
  refine ⟨s.ar.set m v, s.draws, rfl, fun n hn => ?_⟩
  have : m ≠ n := by
    rintro rfl
    simp [hc] at hn
  have h2 : m.val ≠ n.val := fun h => this (Fin.ext h)
  simp only [Fin.getElem_fin]
  exact Vector.getElem_set_ne m.isLt n.isLt h2

/-! ## Indirect operands -/

theorem indirect_frame {i : Indirect} {s s' : State} {a : Addr} (h : indirect i s = .ok (a, s')) :
    OnlyAux (fun n => clobbers i (.ar n)) s s' := by
  cases i with
  | plain n =>
    simp only [indirect, Except.ok.injEq, Prod.mk.injEq] at h
    exact h.2 ▸ OnlyAux.refl _ _
  | bitrev n =>
    simp only [indirect, Except.ok.injEq, Prod.mk.injEq] at h
    exact h.2 ▸ onlyAux_setAr _ _ _ (by simp [clobbers, modifies, Indirect.arNum])
  | indexed m d n =>
    cases m <;> simp only [indirect, bind_ok, Except.ok.injEq, Prod.mk.injEq] at h
    case preAdd => exact h.2 ▸ OnlyAux.refl _ _
    case preSub => exact h.2 ▸ OnlyAux.refl _ _
    case postAddCirc =>
      obtain ⟨v, -, -, h⟩ := h
      exact h ▸ onlyAux_setAr _ _ _ (by simp [clobbers, modifies, Indirect.arNum])
    case postSubCirc =>
      obtain ⟨v, -, -, h⟩ := h
      exact h ▸ onlyAux_setAr _ _ _ (by simp [clobbers, modifies, Indirect.arNum])
    all_goals exact h.2 ▸ onlyAux_setAr _ _ _ (by simp [clobbers, modifies, Indirect.arNum])

theorem ea_frame {m : MemOp} {s s' : State} {a : Addr} (h : ea m s = .ok (a, s')) :
    OnlyAux (fun n => memClobbers m (.ar n)) s s' := by
  cases m with
  | dir k =>
    simp only [ea, Except.ok.injEq, Prod.mk.injEq] at h
    exact h.2 ▸ OnlyAux.refl _ _
  | ind i => exact indirect_frame h

theorem loadInd_frame {i : Indirect} {s s' : State} {w : Word} (h : loadInd i s = .ok (w, s')) :
    OnlyAux (fun n => clobbers i (.ar n)) s s' := by
  simp only [loadInd, bind_ok] at h
  obtain ⟨⟨a, s1⟩, h1, h2⟩ := h
  exact ((indirect_frame h1).trans (OnlyAux.of_draws (c := fun _ => false) (memRead_frame h2))).weaken (by simp)

theorem loadMem_frame {m : MemOp} {s s' : State} {w : Word} (h : loadMem m s = .ok (w, s')) :
    OnlyAux (fun n => memClobbers m (.ar n)) s s' := by
  simp only [loadMem, bind_ok] at h
  obtain ⟨⟨a, s1⟩, h1, h2⟩ := h
  exact ((ea_frame h1).trans (OnlyAux.of_draws (c := fun _ => false) (memRead_frame h2))).weaken (by simp)

/-! ## Source operands -/

theorem srcInt_frame {e : ImmExt} {x : Src} {s s' : State} {v : Word} (h : srcInt e x s = .ok (v, s')) :
    OnlyAux (fun n => srcClobbers x (.ar n)) s s' := by
  cases x with
  | reg r =>
    simp only [srcInt, bind_ok, Except.ok.injEq, Prod.mk.injEq] at h
    obtain ⟨w, -, -, rfl⟩ := h
    exact OnlyAux.refl _ _
  | mem m => exact loadMem_frame h
  | imm k =>
    simp only [srcInt, Except.ok.injEq, Prod.mk.injEq] at h
    exact h.2 ▸ OnlyAux.refl _ _

theorem srcFlt_frame {x : FSrc} {s s' : State} {v : Ext} (h : srcFlt x s = .ok (v, s')) :
    OnlyAux (fun n => fsrcClobbers x (.ar n)) s s' := by
  cases x with
  | reg r =>
    simp only [srcFlt, Except.ok.injEq, Prod.mk.injEq] at h
    exact h.2 ▸ OnlyAux.refl _ _
  | mem m =>
    simp only [srcFlt, bind_ok, Except.ok.injEq, Prod.mk.injEq] at h
    obtain ⟨⟨w, s1⟩, h1, -, rfl⟩ := h
    exact loadMem_frame h1
  | imm k =>
    simp only [srcFlt, Except.ok.injEq, Prod.mk.injEq] at h
    exact h.2 ▸ OnlyAux.refl _ _

/-! ## Operands of an instruction that can make two accesses -/

/-- As `OnlyAux`, and other agents may have written the words of `between`, outside the program and internal memory
(R69). -/
def AuxAndAgents (c : ARn → Bool) (s s' : State) : Prop :=
  ∃ (ar : Vector Word 8) (d : Nat) (m : Memory) (l : List Nat) (b : List (Addr × Word)),
    s' = { s with ar := ar, draws := d, mem := m, stored := l, between := b } ∧
    (∀ n : ARn, c n = false → ar[n] = s.ar[n]) ∧ (b = s.between ∨ b = []) ∧
    (∀ a : Nat, (∀ p ∈ s.between, p.1.toNat ≠ a) → m.read a = s.mem.read a) ∧
    (∀ a : Addr, s.agentMay a = false → m.read a.toNat = s.mem.read a.toNat) ∧
    (∀ a ∈ l, a ∈ s.stored ∨ ∃ p ∈ s.between, p.1.toNat = a ∧ s.inProgram p.1 = false) ∧ (s.mem.wf = true → m.wf = true)

theorem OnlyAux.andAgents {c : ARn → Bool} {s s' : State} (h : OnlyAux c s s') : AuxAndAgents c s s' := by
  obtain ⟨ar, d, rfl, ha⟩ := h
  exact ⟨ar, d, s.mem, s.stored, s.between, rfl, ha, .inl rfl, fun _ _ => rfl, fun _ _ => rfl, fun _ h => .inl h, id⟩

theorem AuxAndAgents.trans {c c' : ARn → Bool} {s s1 s2 : State} (h : AuxAndAgents c s s1)
    (h' : AuxAndAgents c' s1 s2) : AuxAndAgents (fun n => c n || c' n) s s2 := by
  obtain ⟨ar, d, m, l, b, rfl, h1, h2, h3, h4, h5, h6⟩ := h
  obtain ⟨ar', d', m', l', b', rfl, h1', h2', h3', h4', h5', h6'⟩ := h'
  have sub : ∀ p ∈ b, p ∈ s.between := by
    rcases h2 with h2 | h2 <;> simp [h2]
  refine ⟨ar', d', m', l', b', rfl, fun n hn => ?_, ?_, fun a ha => ?_, fun a ha => ?_, fun a ha => ?_, h6' ∘ h6⟩
  · rw [Bool.or_eq_false_iff] at hn
    rw [h1' n hn.2]
    exact h1 n hn.1
  · rcases h2' with h | h
    · exact h ▸ h2
    · exact .inr h
  · rw [h3' a fun p hp => ha p (sub p hp)]
    exact h3 a ha
  · rw [h4' a ha]
    exact h4 a ha
  · rcases h5' a ha with h | ⟨p, hp, h⟩
    · exact h5 a h
    · exact .inr ⟨p, sub p hp, h⟩

theorem agentsAct_frame (s : State) : AuxAndAgents (fun _ => false) s (agentsAct s) := by
  obtain ⟨m, d, e, h1, h2, h3, h4⟩ := outsideWrites_frame s.between { s with between := [] }
  exact ⟨s.ar, s.draws, m, d, [], e, fun _ _ => rfl, .inr rfl, h1, h2, h3, h4⟩

theorem AuxAndAgents.acted {c : ARn → Bool} {s s' : State} (h : OnlyAux c s s') : AuxAndAgents c s (agentsAct s') := by
  have := h.andAgents.trans (agentsAct_frame s')
  simpa using this

theorem src3Int_frame {x : Src3} {s0 s s' : State} {v : Word} (h : src3Int s0 x s = .ok (v, s')) :
    AuxAndAgents (fun n => src3Clobbers x (.ar n)) s s' := by
  cases x with
  | reg r =>
    simp only [src3Int, bind_ok, Except.ok.injEq, Prod.mk.injEq] at h
    obtain ⟨w, -, -, rfl⟩ := h
    exact (OnlyAux.refl _ _).andAgents
  | ind i =>
    simp only [src3Int, bind_ok, Except.ok.injEq, Prod.mk.injEq] at h
    obtain ⟨⟨w, s1⟩, h1, -, rfl⟩ := h
    exact AuxAndAgents.acted (loadInd_frame h1)

theorem src3Flt_frame {x : FSrc3} {s0 s s' : State} {v : Ext} (h : src3Flt s0 x s = .ok (v, s')) :
    AuxAndAgents (fun n => fsrc3Clobbers x (.ar n)) s s' := by
  cases x with
  | reg r =>
    simp only [src3Flt, Except.ok.injEq, Prod.mk.injEq] at h
    exact h.2 ▸ (OnlyAux.refl _ _).andAgents
  | ind i =>
    simp only [src3Flt, bind_ok, Except.ok.injEq, Prod.mk.injEq] at h
    obtain ⟨⟨w, s1⟩, h1, -, rfl⟩ := h
    exact AuxAndAgents.acted (loadInd_frame h1)

theorem mul3Int_frame {x : FSrc3} {s0 s s' : State} {v : Word} (h : mul3Int s0 x s = .ok (v, s')) :
    AuxAndAgents (fun n => fsrc3Clobbers x (.ar n)) s s' := by
  cases x with
  | reg r =>
    simp only [mul3Int, Except.ok.injEq, Prod.mk.injEq] at h
    exact h.2 ▸ (OnlyAux.refl _ _).andAgents
  | ind i =>
    simp only [mul3Int, bind_ok, Except.ok.injEq, Prod.mk.injEq] at h
    obtain ⟨⟨w, s1⟩, h1, -, rfl⟩ := h
    exact AuxAndAgents.acted (loadInd_frame h1)

theorem both3Int_frame {x y : Src3} {s s' : State} {a b : Word} (h : both3Int x y s = .ok (a, b, s')) :
    clash3 x y = false ∧ AuxAndAgents (fun n => src3Clobbers x (.ar n) || src3Clobbers y (.ar n)) s s' := by
  simp only [both3Int, bind_ok, need_ok, Bool.not_eq_true', Except.ok.injEq, Prod.mk.injEq] at h
  obtain ⟨_, hc, ⟨_, s1⟩, h1, ⟨_, s2⟩, h2, -, -, rfl⟩ := h
  exact ⟨hc, (src3Int_frame h1).trans (src3Int_frame h2)⟩

theorem both3Flt_frame {x y : FSrc3} {s s' : State} {a b : Ext} (h : both3Flt x y s = .ok (a, b, s')) :
    fclash3 x y = false ∧ AuxAndAgents (fun n => fsrc3Clobbers x (.ar n) || fsrc3Clobbers y (.ar n)) s s' := by
  simp only [both3Flt, bind_ok, need_ok, Bool.not_eq_true', Except.ok.injEq, Prod.mk.injEq] at h
  obtain ⟨_, hc, ⟨_, s1⟩, h1, ⟨_, s2⟩, h2, -, -, rfl⟩ := h
  exact ⟨hc, (src3Flt_frame h1).trans (src3Flt_frame h2)⟩

/-! ## Targets -/

theorem target_reg {k : Nat} {r : Reg} {s : State} {t : Addr} :
    target k (.reg r) s = .ok t ↔ ∃ v, readInt r s = .ok v ∧ t = low24 v := by
  simp only [target, bind_ok, Except.ok.injEq]
  constructor
  · rintro ⟨v, h, rfl⟩
    exact ⟨v, h, rfl⟩
  · rintro ⟨v, h, rfl⟩
    exact ⟨v, h, rfl⟩

@[simp] theorem target_disp (k : Nat) (d : BitVec 16) (s : State) :
    target k (.disp d) s = .ok (s.pc + BitVec.ofNat 24 k + d.signExtend 24) := rfl

end Sys2Proof.Machine
end

