-- ==== Sys2Proof/Laws/Forms.lean ====
section
/-! SUPPORT. What an instruction of each shape does when it completes: the operands it read, the result it
wrote, and then the end of the instruction. -/

namespace Sys2Proof.Machine

theorem intOp_ok {k : FlagClass} {e : ImmExt} {f : Word → Word → Bool → IntResult} {src : Src} {dst : Reg} {s t : State} :
    intOp k e f src dst s = .ok t ↔
      srcClobbers src dst = false ∧ ∃ d v s1 u, readInt dst s = .ok d ∧ srcInt e src s = .ok (v, s1) ∧
        putInt k dst (f d v s.st.c) s1 = .ok u ∧ t = sequential u := by
  simp only [intOp, guardDest, bind_ok, need_ok, Bool.not_eq_true', Except.ok.injEq]
  constructor
  · rintro ⟨_, h, d, hd, ⟨v, s1⟩, hv, u, hu, rfl⟩
    exact ⟨h, d, v, s1, u, hd, hv, hu, rfl⟩
  · rintro ⟨h, d, v, s1, u, hd, hv, hu, rfl⟩
    exact ⟨(), h, d, hd, (v, s1), hv, u, hu, rfl⟩

theorem intUnary_ok {k : FlagClass} {e : ImmExt} {f : Word → Bool → IntResult} {src : Src} {dst : Reg} {s t : State} :
    intUnary k e f src dst s = .ok t ↔
      srcClobbers src dst = false ∧ ∃ v s1 u, srcInt e src s = .ok (v, s1) ∧
        putInt k dst (f v s.st.c) s1 = .ok u ∧ t = sequential u := by
  simp only [intUnary, guardDest, bind_ok, need_ok, Bool.not_eq_true', Except.ok.injEq]
  constructor
  · rintro ⟨_, h, ⟨v, s1⟩, hv, u, hu, rfl⟩
    exact ⟨h, v, s1, u, hv, hu, rfl⟩
  · rintro ⟨h, v, s1, u, hv, hu, rfl⟩
    exact ⟨(), h, (v, s1), hv, u, hu, rfl⟩

theorem intTest_ok {k : FlagClass} {e : ImmExt} {f : Word → Word → IntResult} {src : Src} {dst : Reg} {s t : State} :
    intTest k e f src dst s = .ok t ↔
      ∃ d v s1, readInt dst s = .ok d ∧ srcInt e src s = .ok (v, s1) ∧
        t = sequential (putFlags k (f d v).flags s1) := by
  simp only [intTest, bind_ok, Except.ok.injEq]
  constructor
  · rintro ⟨d, hd, ⟨v, s1⟩, hv, rfl⟩
    exact ⟨d, v, s1, hd, hv, rfl⟩
  · rintro ⟨d, v, s1, hd, hv, rfl⟩
    exact ⟨d, hd, (v, s1), hv, rfl⟩

theorem int3_ok {k : FlagClass} {f : Word → Word → Bool → IntResult} {src1 src2 : Src3} {dst : Reg} {s t : State} :
    int3 k f src1 src2 dst s = .ok t ↔
      (src3Clobbers src1 dst = false ∧ src3Clobbers src2 dst = false) ∧ ∃ a b s1 u,
        both3Int src1 src2 s = .ok (a, b, s1) ∧ putInt k dst (f a b s.st.c) s1 = .ok u ∧ t = sequential u := by
  simp only [int3, guardDest, bind_ok, need_ok, Bool.not_eq_true', Bool.or_eq_false_iff, Except.ok.injEq]
  constructor
  · rintro ⟨_, h, ⟨a, b, s1⟩, hv, u, hu, rfl⟩
    exact ⟨h, a, b, s1, u, hv, hu, rfl⟩
  · rintro ⟨h, a, b, s1, u, hv, hu, rfl⟩
    exact ⟨(), h, (a, b, s1), hv, u, hu, rfl⟩

theorem intTest3_ok {k : FlagClass} {f : Word → Word → IntResult} {src1 src2 : Src3} {s t : State} :
    intTest3 k f src1 src2 s = .ok t ↔
      ∃ a b s1, both3Int src1 src2 s = .ok (a, b, s1) ∧ t = sequential (putFlags k (f a b).flags s1) := by
  simp only [intTest3, bind_ok, Except.ok.injEq]
  constructor
  · rintro ⟨⟨a, b, s1⟩, hv, rfl⟩
    exact ⟨a, b, s1, hv, rfl⟩
  · rintro ⟨a, b, s1, hv, rfl⟩
    exact ⟨(a, b, s1), hv, rfl⟩

theorem fltOp_ok {k : FlagClass} {f : Ext → Ext → FltResult} {src : FSrc} {dst : Rn} {s t : State} :
    fltOp k f src dst s = .ok t ↔
      ∃ v s1, srcFlt src s = .ok (v, s1) ∧ t = sequential (putFlt k dst (f (s.rn dst) v) s1) := by
  simp only [fltOp, bind_ok, Except.ok.injEq]
  constructor
  · rintro ⟨⟨v, s1⟩, hv, rfl⟩
    exact ⟨v, s1, hv, rfl⟩
  · rintro ⟨v, s1, hv, rfl⟩
    exact ⟨(v, s1), hv, rfl⟩

theorem fltUnary_ok {k : FlagClass} {f : Ext → FltResult} {src : FSrc} {dst : Rn} {s t : State} :
    fltUnary k f src dst s = .ok t ↔
      ∃ v s1, srcFlt src s = .ok (v, s1) ∧ t = sequential (putFlt k dst (f v) s1) := by
  simp only [fltUnary, bind_ok, Except.ok.injEq]
  constructor
  · rintro ⟨⟨v, s1⟩, hv, rfl⟩
    exact ⟨v, s1, hv, rfl⟩
  · rintro ⟨v, s1, hv, rfl⟩
    exact ⟨(v, s1), hv, rfl⟩

theorem flt3_ok {k : FlagClass} {f : Ext → Ext → FltResult} {src1 src2 : FSrc3} {dst : Rn} {s t : State} :
    flt3 k f src1 src2 dst s = .ok t ↔
      ∃ a b s1, both3Flt src1 src2 s = .ok (a, b, s1) ∧ t = sequential (putFlt k dst (f a b) s1) := by
  simp only [flt3, bind_ok, Except.ok.injEq]
  constructor
  · rintro ⟨⟨a, b, s1⟩, hv, rfl⟩
    exact ⟨a, b, s1, hv, rfl⟩
  · rintro ⟨a, b, s1, hv, rfl⟩
    exact ⟨(a, b, s1), hv, rfl⟩

theorem rotate_ok {f : Word → Bool → IntResult} {dst : Reg} {s t : State} :
    rotate f dst s = .ok t ↔
      ∃ d u, readInt dst s = .ok d ∧ putInt .rot dst (f d s.st.c) s = .ok u ∧ t = sequential u := by
  simp only [rotate, bind_ok, Except.ok.injEq]
  constructor
  · rintro ⟨d, hd, u, hu, rfl⟩
    exact ⟨d, u, hd, hu, rfl⟩
  · rintro ⟨d, u, hd, hu, rfl⟩
    exact ⟨d, hd, u, hu, rfl⟩

theorem storeAt_ok {v : Word} {m : MemOp} {s t : State} :
    storeAt v m s = .ok t ↔
      ∃ a s1, ea m s = .ok (a, s1) ∧ s.kindAt a ≠ .unmapped ∧ s.inProgram a = false ∧
        t = sequential (s1.store a v) := by
  simp only [storeAt, bind_ok, Except.ok.injEq, memWrite_ok]
  constructor
  · rintro ⟨⟨a, s1⟩, ha, u, ⟨h1, h2, rfl⟩, rfl⟩
    obtain ⟨ar, d, rfl, -⟩ := ea_frame ha
    exact ⟨a, _, ha, h1, h2, rfl⟩
  · rintro ⟨a, s1, ha, h1, h2, rfl⟩
    refine ⟨(a, s1), ha, _, ⟨?_, ?_, rfl⟩, rfl⟩
    all_goals
      obtain ⟨ar, d, rfl, -⟩ := ea_frame ha
      assumption

end Sys2Proof.Machine
end

