-- ==== Sys2Proof/Laws/PerInstr.lean ====
section
/-! SUPPORT. The per-instruction law `Encoding`: the word of an instruction carries, in the bits that its row of
spec/opcode_table.json fixes, the row's values. The two words of each row below are that table's, not the
encoder's. -/

namespace Sys2Proof.Laws.Encoding

/-- `mask` and `match` of an opcode-table row. -/
structure Row where
  mask    : Word
  pattern : Word
  deriving DecidableEq, Repr

/-- The row of an instruction in spec/opcode_table.json. -/
def row : Instr → Row
  | .absi _ _ => ⟨0xFF800000#32, 0x00800000#32⟩
  | .addc _ _ => ⟨0xFF800000#32, 0x01000000#32⟩
  | .addi _ _ => ⟨0xFF800000#32, 0x02000000#32⟩
  | .and _ _ => ⟨0xFF800000#32, 0x02800000#32⟩
  | .andn _ _ => ⟨0xFF800000#32, 0x03000000#32⟩
  | .ash _ _ => ⟨0xFF800000#32, 0x03800000#32⟩
  | .cmpi _ _ => ⟨0xFF800000#32, 0x04800000#32⟩
  | .ldi _ _ => ⟨0xFF800000#32, 0x08000000#32⟩
  | .lsh _ _ => ⟨0xFF800000#32, 0x09800000#32⟩
  | .mpyi _ _ => ⟨0xFF800000#32, 0x0A800000#32⟩
  | .negb _ _ => ⟨0xFF800000#32, 0x0B000000#32⟩
  | .negi _ _ => ⟨0xFF800000#32, 0x0C000000#32⟩
  | .not _ _ => ⟨0xFF800000#32, 0x0D800000#32⟩
  | .or _ _ => ⟨0xFF800000#32, 0x10000000#32⟩
  | .subb _ _ => ⟨0xFF800000#32, 0x16800000#32⟩
  | .subc _ _ => ⟨0xFF800000#32, 0x17000000#32⟩
  | .subi _ _ => ⟨0xFF800000#32, 0x18000000#32⟩
  | .subrb _ _ => ⟨0xFF800000#32, 0x18800000#32⟩
  | .subri _ _ => ⟨0xFF800000#32, 0x19800000#32⟩
  | .tstb _ _ => ⟨0xFF800000#32, 0x1A000000#32⟩
  | .xor _ _ => ⟨0xFF800000#32, 0x1A800000#32⟩
  | .absf _ _ => ⟨0xFF800000#32, 0x00000000#32⟩
  | .addf _ _ => ⟨0xFF800000#32, 0x01800000#32⟩
  | .cmpf _ _ => ⟨0xFF800000#32, 0x04000000#32⟩
  | .fix _ _ => ⟨0xFF800000#32, 0x05000000#32⟩
  | .float _ _ => ⟨0xFF800000#32, 0x05800000#32⟩
  | .lde _ _ => ⟨0xFF800000#32, 0x06800000#32⟩
  | .ldf _ _ => ⟨0xFF800000#32, 0x07000000#32⟩
  | .ldm _ _ => ⟨0xFF800000#32, 0x09000000#32⟩
  | .mpyf _ _ => ⟨0xFF800000#32, 0x0A000000#32⟩
  | .negf _ _ => ⟨0xFF800000#32, 0x0B800000#32⟩
  | .norm _ _ => ⟨0xFF800000#32, 0x0D000000#32⟩
  | .rnd _ _ => ⟨0xFF800000#32, 0x11000000#32⟩
  | .subf _ _ => ⟨0xFF800000#32, 0x17800000#32⟩
  | .subrf _ _ => ⟨0xFF800000#32, 0x19000000#32⟩
  | .stf _ _ => ⟨0xFF800000#32, 0x14000000#32⟩
  | .sti _ _ => ⟨0xFF800000#32, 0x15000000#32⟩
  | .pop _ => ⟨0xFFE0FFFF#32, 0x0E200000#32⟩
  | .popf _ => ⟨0xFFE0FFFF#32, 0x0EA00000#32⟩
  | .push _ => ⟨0xFFE0FFFF#32, 0x0F200000#32⟩
  | .pushf _ => ⟨0xFFE0FFFF#32, 0x0FA00000#32⟩
  | .ldp _ => ⟨0xFFFFFF00#32, 0x08700000#32⟩
  | .ldfi _ _ => ⟨0xFF800000#32, 0x07800000#32⟩
  | .ldii _ _ => ⟨0xFF800000#32, 0x08800000#32⟩
  | .stfi _ _ => ⟨0xFF800000#32, 0x14800000#32⟩
  | .stii _ _ => ⟨0xFF800000#32, 0x15800000#32⟩
  | .sigi => ⟨0xFFFFFFFF#32, 0x16000000#32⟩
  | .rol _ => ⟨0xFFE0FFFF#32, 0x11E00001#32⟩
  | .rolc _ => ⟨0xFFE0FFFF#32, 0x12600001#32⟩
  | .ror _ => ⟨0xFFE0FFFF#32, 0x12E0FFFF#32⟩
  | .rorc _ => ⟨0xFFE0FFFF#32, 0x1360FFFF#32⟩
  | .idle => ⟨0xFFFFFFFF#32, 0x06000000#32⟩
  | .idle2 => ⟨0xFFFFFFFF#32, 0x06000001#32⟩
  | .nop _ => ⟨0xFF800000#32, 0x0C800000#32⟩
  | .maxspeed => ⟨0xFFFFFFFF#32, 0x10800000#32⟩
  | .lopower => ⟨0xFFFFFFFF#32, 0x10800001#32⟩
  | .rpts _ => ⟨0xFF9F0000#32, 0x139B0000#32⟩
  | .iack _ => ⟨0xFF9F0000#32, 0x1B000000#32⟩
  | .addc3 _ _ _ => ⟨0xFF800000#32, 0x20000000#32⟩
  | .addf3 _ _ _ => ⟨0xFF800000#32, 0x20800000#32⟩
  | .addi3 _ _ _ => ⟨0xFF800000#32, 0x21000000#32⟩
  | .and3 _ _ _ => ⟨0xFF800000#32, 0x21800000#32⟩
  | .andn3 _ _ _ => ⟨0xFF800000#32, 0x22000000#32⟩
  | .ash3 _ _ _ => ⟨0xFF800000#32, 0x22800000#32⟩
  | .cmpf3 _ _ => ⟨0xFF800000#32, 0x23000000#32⟩
  | .cmpi3 _ _ => ⟨0xFF800000#32, 0x23800000#32⟩
  | .lsh3 _ _ _ => ⟨0xFF800000#32, 0x24000000#32⟩
  | .mpyf3 _ _ _ => ⟨0xFF800000#32, 0x24800000#32⟩
  | .mpyi3 _ _ _ => ⟨0xFF800000#32, 0x25000000#32⟩
  | .or3 _ _ _ => ⟨0xFF800000#32, 0x25800000#32⟩
  | .subb3 _ _ _ => ⟨0xFF800000#32, 0x26000000#32⟩
  | .subf3 _ _ _ => ⟨0xFF800000#32, 0x26800000#32⟩
  | .subi3 _ _ _ => ⟨0xFF800000#32, 0x27000000#32⟩
  | .tstb3 _ _ => ⟨0xFF800000#32, 0x27800000#32⟩
  | .xor3 _ _ _ => ⟨0xFF800000#32, 0x28000000#32⟩
  | .ldfcond _ _ _ => ⟨0xF0000000#32, 0x40000000#32⟩
  | .ldicond _ _ _ => ⟨0xF0000000#32, 0x50000000#32⟩
  | .br _ => ⟨0xFF000000#32, 0x60000000#32⟩
  | .brd _ => ⟨0xFF000000#32, 0x61000000#32⟩
  | .call _ => ⟨0xFF000000#32, 0x62000000#32⟩
  | .rptb _ => ⟨0xFF000000#32, 0x64000000#32⟩
  | .swi => ⟨0xFFFFFFFF#32, 0x66000000#32⟩
  | .bcond _ _ => ⟨0xFDE00000#32, 0x68000000#32⟩
  | .bcondD _ _ => ⟨0xFDE00000#32, 0x68200000#32⟩
  | .dbcond _ _ _ => ⟨0xFC200000#32, 0x6C000000#32⟩
  | .dbcondD _ _ _ => ⟨0xFC200000#32, 0x6C200000#32⟩
  | .callcond _ _ => ⟨0xFDE00000#32, 0x70000000#32⟩
  | .trapcond _ _ => ⟨0xFFE0FFE0#32, 0x74000020#32⟩
  | .reticond _ => ⟨0xFFE0FFFF#32, 0x78000000#32⟩
  | .retscond _ => ⟨0xFFE0FFFF#32, 0x78800000#32⟩
  | .mpyf3Addf3 _ => ⟨0xFC000000#32, 0x80000000#32⟩
  | .mpyf3Subf3 _ => ⟨0xFC000000#32, 0x84000000#32⟩
  | .mpyi3Addi3 _ => ⟨0xFC000000#32, 0x88000000#32⟩
  | .mpyi3Subi3 _ => ⟨0xFC000000#32, 0x8C000000#32⟩
  | .stfStf _ => ⟨0xFE000000#32, 0xC0000000#32⟩
  | .stiSti _ => ⟨0xFE000000#32, 0xC2000000#32⟩
  | .ldfLdf _ => ⟨0xFE000000#32, 0xC4000000#32⟩
  | .ldiLdi _ => ⟨0xFE000000#32, 0xC6000000#32⟩
  | .absfStf _ => ⟨0xFE000000#32, 0xC8000000#32⟩
  | .absiSti _ => ⟨0xFE000000#32, 0xCA000000#32⟩
  | .addf3Stf _ => ⟨0xFE000000#32, 0xCC000000#32⟩
  | .addi3Sti _ => ⟨0xFE000000#32, 0xCE000000#32⟩
  | .and3Sti _ => ⟨0xFE000000#32, 0xD0000000#32⟩
  | .ash3Sti _ => ⟨0xFE000000#32, 0xD2000000#32⟩
  | .fixSti _ => ⟨0xFE000000#32, 0xD4000000#32⟩
  | .floatStf _ => ⟨0xFE000000#32, 0xD6000000#32⟩
  | .ldfStf _ => ⟨0xFE000000#32, 0xD8000000#32⟩
  | .ldiSti _ => ⟨0xFE000000#32, 0xDA000000#32⟩
  | .lsh3Sti _ => ⟨0xFE000000#32, 0xDC000000#32⟩
  | .mpyf3Stf _ => ⟨0xFE000000#32, 0xDE000000#32⟩
  | .mpyi3Sti _ => ⟨0xFE000000#32, 0xE0000000#32⟩
  | .negfStf _ => ⟨0xFE000000#32, 0xE2000000#32⟩
  | .negiSti _ => ⟨0xFE000000#32, 0xE4000000#32⟩
  | .notSti _ => ⟨0xFE000000#32, 0xE6000000#32⟩
  | .or3Sti _ => ⟨0xFE000000#32, 0xE8000000#32⟩
  | .subf3Stf _ => ⟨0xFE000000#32, 0xEA000000#32⟩
  | .subi3Sti _ => ⟨0xFE000000#32, 0xEC000000#32⟩
  | .xor3Sti _ => ⟨0xFE000000#32, 0xEE000000#32⟩

/-- The law: the bits that the row fixes have the row's values. -/
def Statement (i : Instr) : Prop := encode i &&& (row i).mask = (row i).pattern

/-! ## The formats under their masks -/

theorem packG_bit (op : BitVec 6) (g : BitVec 2) (d : BitVec 5) (s : BitVec 16) (i : Nat) :
    (packG op g d s).getLsbD i = (0b000#3 ++ op ++ g ++ d ++ s).getLsbD i := rfl

theorem packT_bit (op : BitVec 6) (t1 t2 : BitVec 1) (d : BitVec 5) (a b : BitVec 8) (i : Nat) :
    (packT op t1 t2 d a b).getLsbD i = (0b001#3 ++ op ++ t2 ++ t1 ++ d ++ a ++ b).getLsbD i := rfl

theorem packC_bit (k : BitVec 1) (c : BitVec 5) (g : BitVec 2) (d : BitVec 5) (s : BitVec 16) (i : Nat) :
    (packC k c g d s).getLsbD i = (0b010#3 ++ k ++ c ++ g ++ d ++ s).getLsbD i := rfl

theorem packL_bit (op : BitVec 5) (a : Addr) (i : Nat) :
    (packL op a).getLsbD i = (0b011#3 ++ op ++ a).getLsbD i := rfl

theorem packB_bit (op : BitVec 3) (b : BitVec 1) (ar : BitVec 3) (d : BitVec 1) (c : BitVec 5) (s : BitVec 16) (i : Nat) :
    (packB op b ar d c s).getLsbD i = (0b011#3 ++ op ++ b ++ ar ++ d ++ c ++ s).getLsbD i := rfl

theorem packM_bit (op : BitVec 4) (p : BitVec 2) (d1 d2 : BitVec 1) (a b : BitVec 3) (c d : BitVec 8) (i : Nat) :
    (packM op p d1 d2 a b c d).getLsbD i = (0b10#2 ++ op ++ p ++ d1 ++ d2 ++ a ++ b ++ c ++ d).getLsbD i := rfl

theorem packS_bit (op : BitVec 5) (x y z : BitVec 3) (hi lo : BitVec 8) (i : Nat) :
    (packS op x y z hi lo).getLsbD i = (0b11#2 ++ op ++ x ++ y ++ z ++ hi ++ lo).getLsbD i := rfl

theorem packG_op (op : BitVec 6) (g : BitVec 2) (d : BitVec 5) (s : BitVec 16) :
    packG op g d s &&& 0xFF800000#32 = packG op 0 0 0 := by
  apply BitVec.eq_of_getLsbD_eq
  intro i hi
  rw [BitVec.getLsbD_and, packG_bit, packG_bit]
  simp only [BitVec.getLsbD_append]
  interval_cases i <;> simp

theorem packG_op_low (op : BitVec 6) (g : BitVec 2) (d : BitVec 5) (s : BitVec 16) :
    packG op g d s &&& 0xFFE0FFFF#32 = packG op g 0 s := by
  apply BitVec.eq_of_getLsbD_eq
  intro i hi
  rw [BitVec.getLsbD_and, packG_bit, packG_bit]
  simp only [BitVec.getLsbD_append]
  interval_cases i <;> simp

theorem packG_op_dst (op : BitVec 6) (g : BitVec 2) (d : BitVec 5) (s : BitVec 16) :
    packG op g d s &&& 0xFF9F0000#32 = packG op 0 d 0 := by
  apply BitVec.eq_of_getLsbD_eq
  intro i hi
  rw [BitVec.getLsbD_and, packG_bit, packG_bit]
  simp only [BitVec.getLsbD_append]
  interval_cases i <;> simp

theorem packG_page (op : BitVec 6) (g : BitVec 2) (d : BitVec 5) (s : BitVec 8) :
    packG op g d (0#8 ++ s) &&& 0xFFFFFF00#32 = packG op g d 0 := by
  apply BitVec.eq_of_getLsbD_eq
  intro i hi
  rw [BitVec.getLsbD_and, packG_bit, packG_bit]
  simp only [BitVec.getLsbD_append]
  interval_cases i <;> simp

theorem packT_op (op : BitVec 6) (t1 t2 : BitVec 1) (d : BitVec 5) (a b : BitVec 8) :
    packT op t1 t2 d a b &&& 0xFF800000#32 = packT op 0 0 0 0 0 := by
  apply BitVec.eq_of_getLsbD_eq
  intro i hi
  rw [BitVec.getLsbD_and, packT_bit, packT_bit]
  simp only [BitVec.getLsbD_append]
  interval_cases i <;> simp

theorem packC_op (k : BitVec 1) (c : BitVec 5) (g : BitVec 2) (d : BitVec 5) (s : BitVec 16) :
    packC k c g d s &&& 0xF0000000#32 = packC k 0 0 0 0 := by
  apply BitVec.eq_of_getLsbD_eq
  intro i hi
  rw [BitVec.getLsbD_and, packC_bit, packC_bit]
  simp only [BitVec.getLsbD_append]
  interval_cases i <;> simp

theorem packL_op (op : BitVec 5) (a : Addr) : packL op a &&& 0xFF000000#32 = packL op 0 := by
  apply BitVec.eq_of_getLsbD_eq
  intro i hi
  rw [BitVec.getLsbD_and, packL_bit, packL_bit]
  simp only [BitVec.getLsbD_append]
  interval_cases i <;> simp

theorem packB_branch (op : BitVec 3) (b : BitVec 1) (ar : BitVec 3) (d : BitVec 1) (c : BitVec 5) (s : BitVec 16) :
    packB op b ar d c s &&& 0xFDE00000#32 = packB op 0 ar d 0 0 := by
  apply BitVec.eq_of_getLsbD_eq
  intro i hi
  rw [BitVec.getLsbD_and, packB_bit, packB_bit]
  simp only [BitVec.getLsbD_append]
  interval_cases i <;> simp

theorem packB_decrement (op : BitVec 3) (b : BitVec 1) (ar : BitVec 3) (d : BitVec 1) (c : BitVec 5) (s : BitVec 16) :
    packB op b ar d c s &&& 0xFC200000#32 = packB op 0 0 d 0 0 := by
  apply BitVec.eq_of_getLsbD_eq
  intro i hi
  rw [BitVec.getLsbD_and, packB_bit, packB_bit]
  simp only [BitVec.getLsbD_append]
  interval_cases i <;> simp

theorem packB_trap (op : BitVec 3) (b : BitVec 1) (ar : BitVec 3) (d : BitVec 1) (c : BitVec 5) (h : BitVec 11)
    (n : BitVec 5) : packB op b ar d c (h ++ n) &&& 0xFFE0FFE0#32 = packB op b ar d 0 (h ++ 0#5) := by
  apply BitVec.eq_of_getLsbD_eq
  intro i hi
  rw [BitVec.getLsbD_and, packB_bit, packB_bit]
  simp only [BitVec.getLsbD_append]
  interval_cases i <;> simp

theorem packB_return (op : BitVec 3) (b : BitVec 1) (ar : BitVec 3) (d : BitVec 1) (c : BitVec 5) (s : BitVec 16) :
    packB op b ar d c s &&& 0xFFE0FFFF#32 = packB op b ar d 0 s := by
  apply BitVec.eq_of_getLsbD_eq
  intro i hi
  rw [BitVec.getLsbD_and, packB_bit, packB_bit]
  simp only [BitVec.getLsbD_append]
  interval_cases i <;> simp

theorem packM_op (op : BitVec 4) (p : BitVec 2) (d1 d2 : BitVec 1) (a b : BitVec 3) (c d : BitVec 8) :
    packM op p d1 d2 a b c d &&& 0xFC000000#32 = packM op 0 0 0 0 0 0 0 := by
  apply BitVec.eq_of_getLsbD_eq
  intro i hi
  rw [BitVec.getLsbD_and, packM_bit, packM_bit]
  simp only [BitVec.getLsbD_append]
  interval_cases i <;> simp

theorem packS_op (op : BitVec 5) (x y z : BitVec 3) (hi lo : BitVec 8) :
    packS op x y z hi lo &&& 0xFE000000#32 = packS op 0 0 0 0 0 := by
  apply BitVec.eq_of_getLsbD_eq
  intro i hi
  rw [BitVec.getLsbD_and, packS_bit, packS_bit]
  simp only [BitVec.getLsbD_append]
  interval_cases i <;> simp

theorem encodeMul_op (op : BitVec 4) (p : MulPair) : encodeMul op p &&& 0xFC000000#32 = packM op 0 0 0 0 0 0 0 := by
  unfold encodeMul
  split <;> exact packM_op ..

/-! ## The instructions -/

theorem absi (src : Src) (dst : Reg) : Statement (.absi src dst) := (packG_op ..).trans rfl
theorem addc (src : Src) (dst : Reg) : Statement (.addc src dst) := (packG_op ..).trans rfl
theorem addi (src : Src) (dst : Reg) : Statement (.addi src dst) := (packG_op ..).trans rfl
theorem and (src : Src) (dst : Reg) : Statement (.and src dst) := (packG_op ..).trans rfl
theorem andn (src : Src) (dst : Reg) : Statement (.andn src dst) := (packG_op ..).trans rfl
theorem ash (count : Src) (dst : Reg) : Statement (.ash count dst) := (packG_op ..).trans rfl
theorem cmpi (src : Src) (dst : Reg) : Statement (.cmpi src dst) := (packG_op ..).trans rfl
theorem ldi (src : Src) (dst : Reg) : Statement (.ldi src dst) := (packG_op ..).trans rfl
theorem lsh (count : Src) (dst : Reg) : Statement (.lsh count dst) := (packG_op ..).trans rfl
theorem mpyi (src : Src) (dst : Reg) : Statement (.mpyi src dst) := (packG_op ..).trans rfl
theorem negb (src : Src) (dst : Reg) : Statement (.negb src dst) := (packG_op ..).trans rfl
theorem negi (src : Src) (dst : Reg) : Statement (.negi src dst) := (packG_op ..).trans rfl
theorem not (src : Src) (dst : Reg) : Statement (.not src dst) := (packG_op ..).trans rfl
theorem or (src : Src) (dst : Reg) : Statement (.or src dst) := (packG_op ..).trans rfl
theorem subb (src : Src) (dst : Reg) : Statement (.subb src dst) := (packG_op ..).trans rfl
theorem subc (src : Src) (dst : Reg) : Statement (.subc src dst) := (packG_op ..).trans rfl
theorem subi (src : Src) (dst : Reg) : Statement (.subi src dst) := (packG_op ..).trans rfl
theorem subrb (src : Src) (dst : Reg) : Statement (.subrb src dst) := (packG_op ..).trans rfl
theorem subri (src : Src) (dst : Reg) : Statement (.subri src dst) := (packG_op ..).trans rfl
theorem tstb (src : Src) (dst : Reg) : Statement (.tstb src dst) := (packG_op ..).trans rfl
theorem xor (src : Src) (dst : Reg) : Statement (.xor src dst) := (packG_op ..).trans rfl
theorem absf (src : FSrc) (dst : Rn) : Statement (.absf src dst) := (packG_op ..).trans rfl
theorem addf (src : FSrc) (dst : Rn) : Statement (.addf src dst) := (packG_op ..).trans rfl
theorem cmpf (src : FSrc) (dst : Rn) : Statement (.cmpf src dst) := (packG_op ..).trans rfl
theorem fix (src : FSrc) (dst : Reg) : Statement (.fix src dst) := (packG_op ..).trans rfl
theorem float (src : Src) (dst : Rn) : Statement (.float src dst) := (packG_op ..).trans rfl
theorem lde (src : FSrc) (dst : Rn) : Statement (.lde src dst) := (packG_op ..).trans rfl
theorem ldf (src : FSrc) (dst : Rn) : Statement (.ldf src dst) := (packG_op ..).trans rfl
theorem ldm (src : FSrc) (dst : Rn) : Statement (.ldm src dst) := (packG_op ..).trans rfl
theorem mpyf (src : FSrc) (dst : Rn) : Statement (.mpyf src dst) := (packG_op ..).trans rfl
theorem negf (src : FSrc) (dst : Rn) : Statement (.negf src dst) := (packG_op ..).trans rfl
theorem norm (src : FSrc) (dst : Rn) : Statement (.norm src dst) := (packG_op ..).trans rfl
theorem rnd (src : FSrc) (dst : Rn) : Statement (.rnd src dst) := (packG_op ..).trans rfl
theorem subf (src : FSrc) (dst : Rn) : Statement (.subf src dst) := (packG_op ..).trans rfl
theorem subrf (src : FSrc) (dst : Rn) : Statement (.subrf src dst) := (packG_op ..).trans rfl
theorem stf (src : Rn) (daddr : MemOp) : Statement (.stf src daddr) := (packG_op ..).trans rfl
theorem sti (src : Reg) (daddr : MemOp) : Statement (.sti src daddr) := (packG_op ..).trans rfl
theorem pop (dst : Reg) : Statement (.pop dst) := (packG_op_low ..).trans rfl
theorem popf (dst : Rn) : Statement (.popf dst) := (packG_op_low ..).trans rfl
theorem push (src : Reg) : Statement (.push src) := (packG_op_low ..).trans rfl
theorem pushf (src : Rn) : Statement (.pushf src) := (packG_op_low ..).trans rfl
theorem ldp (page : BitVec 8) : Statement (.ldp page) := (packG_page ..).trans rfl
theorem ldfi (src : MemOp) (dst : Rn) : Statement (.ldfi src dst) := (packG_op ..).trans rfl
theorem ldii (src : MemOp) (dst : Reg) : Statement (.ldii src dst) := (packG_op ..).trans rfl
theorem stfi (src : Rn) (daddr : MemOp) : Statement (.stfi src daddr) := (packG_op ..).trans rfl
theorem stii (src : Reg) (daddr : MemOp) : Statement (.stii src daddr) := (packG_op ..).trans rfl
theorem sigi : Statement (.sigi) := rfl
theorem rol (dst : Reg) : Statement (.rol dst) := (packG_op_low ..).trans rfl
theorem rolc (dst : Reg) : Statement (.rolc dst) := (packG_op_low ..).trans rfl
theorem ror (dst : Reg) : Statement (.ror dst) := (packG_op_low ..).trans rfl
theorem rorc (dst : Reg) : Statement (.rorc dst) := (packG_op_low ..).trans rfl
theorem idle : Statement (.idle) := rfl
theorem idle2 : Statement (.idle2) := rfl
theorem nop (src : Option Indirect) : Statement (.nop src) := by
  cases src <;> exact (packG_op ..).trans rfl
theorem maxspeed : Statement (.maxspeed) := rfl
theorem lopower : Statement (.lopower) := rfl
theorem rpts (src : Src) : Statement (.rpts src) := (packG_op_dst ..).trans rfl
theorem iack (src : MemOp) : Statement (.iack src) := (packG_op_dst ..).trans rfl
theorem addc3 (src1 : Src3) (src2 : Src3) (dst : Reg) : Statement (.addc3 src1 src2 dst) := (packT_op ..).trans rfl
theorem addf3 (src1 : FSrc3) (src2 : FSrc3) (dst : Rn) : Statement (.addf3 src1 src2 dst) := (packT_op ..).trans rfl
theorem addi3 (src1 : Src3) (src2 : Src3) (dst : Reg) : Statement (.addi3 src1 src2 dst) := (packT_op ..).trans rfl
theorem and3 (src1 : Src3) (src2 : Src3) (dst : Reg) : Statement (.and3 src1 src2 dst) := (packT_op ..).trans rfl
theorem andn3 (src1 : Src3) (src2 : Src3) (dst : Reg) : Statement (.andn3 src1 src2 dst) := (packT_op ..).trans rfl
theorem ash3 (src : Src3) (count : Src3) (dst : Reg) : Statement (.ash3 src count dst) := (packT_op ..).trans rfl
theorem cmpf3 (src1 : FSrc3) (src2 : FSrc3) : Statement (.cmpf3 src1 src2) := (packT_op ..).trans rfl
theorem cmpi3 (src1 : Src3) (src2 : Src3) : Statement (.cmpi3 src1 src2) := (packT_op ..).trans rfl
theorem lsh3 (src : Src3) (count : Src3) (dst : Reg) : Statement (.lsh3 src count dst) := (packT_op ..).trans rfl
theorem mpyf3 (src1 : FSrc3) (src2 : FSrc3) (dst : Rn) : Statement (.mpyf3 src1 src2 dst) := (packT_op ..).trans rfl
theorem mpyi3 (src1 : Src3) (src2 : Src3) (dst : Reg) : Statement (.mpyi3 src1 src2 dst) := (packT_op ..).trans rfl
theorem or3 (src1 : Src3) (src2 : Src3) (dst : Reg) : Statement (.or3 src1 src2 dst) := (packT_op ..).trans rfl
theorem subb3 (src1 : Src3) (src2 : Src3) (dst : Reg) : Statement (.subb3 src1 src2 dst) := (packT_op ..).trans rfl
theorem subf3 (src1 : FSrc3) (src2 : FSrc3) (dst : Rn) : Statement (.subf3 src1 src2 dst) := (packT_op ..).trans rfl
theorem subi3 (src1 : Src3) (src2 : Src3) (dst : Reg) : Statement (.subi3 src1 src2 dst) := (packT_op ..).trans rfl
theorem tstb3 (src1 : Src3) (src2 : Src3) : Statement (.tstb3 src1 src2) := (packT_op ..).trans rfl
theorem xor3 (src1 : Src3) (src2 : Src3) (dst : Reg) : Statement (.xor3 src1 src2 dst) := (packT_op ..).trans rfl
theorem ldfcond (c : Cond) (src : FSrc) (dst : Rn) : Statement (.ldfcond c src dst) := (packC_op ..).trans rfl
theorem ldicond (c : Cond) (src : Src) (dst : Reg) : Statement (.ldicond c src dst) := (packC_op ..).trans rfl
theorem br (addr : Addr) : Statement (.br addr) := (packL_op ..).trans rfl
theorem brd (addr : Addr) : Statement (.brd addr) := (packL_op ..).trans rfl
theorem call (addr : Addr) : Statement (.call addr) := (packL_op ..).trans rfl
theorem rptb (addr : Addr) : Statement (.rptb addr) := (packL_op ..).trans rfl
theorem swi : Statement (.swi) := rfl
theorem bcond (c : Cond) (csrc : Csrc) : Statement (.bcond c csrc) := (packB_branch ..).trans rfl
theorem bcondD (c : Cond) (csrc : Csrc) : Statement (.bcondD c csrc) := (packB_branch ..).trans rfl
theorem dbcond (c : Cond) (ar : ARn) (csrc : Csrc) : Statement (.dbcond c ar csrc) := (packB_decrement ..).trans rfl
theorem dbcondD (c : Cond) (ar : ARn) (csrc : Csrc) : Statement (.dbcondD c ar csrc) := (packB_decrement ..).trans rfl
theorem callcond (c : Cond) (csrc : Csrc) : Statement (.callcond c csrc) := (packB_branch ..).trans rfl
theorem trapcond (c : Cond) (n : Fin 32) : Statement (.trapcond c n) := (packB_trap ..).trans rfl
theorem reticond (c : Cond) : Statement (.reticond c) := (packB_return ..).trans rfl
theorem retscond (c : Cond) : Statement (.retscond c) := (packB_return ..).trans rfl
theorem mpyf3Addf3 (p : MulPair) : Statement (.mpyf3Addf3 p) := (encodeMul_op ..).trans rfl
theorem mpyf3Subf3 (p : MulPair) : Statement (.mpyf3Subf3 p) := (encodeMul_op ..).trans rfl
theorem mpyi3Addi3 (p : MulPair) : Statement (.mpyi3Addi3 p) := (encodeMul_op ..).trans rfl
theorem mpyi3Subi3 (p : MulPair) : Statement (.mpyi3Subi3 p) := (encodeMul_op ..).trans rfl
theorem stfStf (p : StorePair) : Statement (.stfStf p) := (packS_op ..).trans rfl
theorem stiSti (p : StorePair) : Statement (.stiSti p) := (packS_op ..).trans rfl
theorem ldfLdf (p : LoadPair) : Statement (.ldfLdf p) := (packS_op ..).trans rfl
theorem ldiLdi (p : LoadPair) : Statement (.ldiLdi p) := (packS_op ..).trans rfl
theorem absfStf (p : OneStore) : Statement (.absfStf p) := (packS_op ..).trans rfl
theorem absiSti (p : OneStore) : Statement (.absiSti p) := (packS_op ..).trans rfl
theorem addf3Stf (p : TwoStore) : Statement (.addf3Stf p) := (packS_op ..).trans rfl
theorem addi3Sti (p : TwoStore) : Statement (.addi3Sti p) := (packS_op ..).trans rfl
theorem and3Sti (p : TwoStore) : Statement (.and3Sti p) := (packS_op ..).trans rfl
theorem ash3Sti (p : TwoStore) : Statement (.ash3Sti p) := (packS_op ..).trans rfl
theorem fixSti (p : OneStore) : Statement (.fixSti p) := (packS_op ..).trans rfl
theorem floatStf (p : OneStore) : Statement (.floatStf p) := (packS_op ..).trans rfl
theorem ldfStf (p : OneStore) : Statement (.ldfStf p) := (packS_op ..).trans rfl
theorem ldiSti (p : OneStore) : Statement (.ldiSti p) := (packS_op ..).trans rfl
theorem lsh3Sti (p : TwoStore) : Statement (.lsh3Sti p) := (packS_op ..).trans rfl
theorem mpyf3Stf (p : TwoStore) : Statement (.mpyf3Stf p) := (packS_op ..).trans rfl
theorem mpyi3Sti (p : TwoStore) : Statement (.mpyi3Sti p) := (packS_op ..).trans rfl
theorem negfStf (p : OneStore) : Statement (.negfStf p) := (packS_op ..).trans rfl
theorem negiSti (p : OneStore) : Statement (.negiSti p) := (packS_op ..).trans rfl
theorem notSti (p : OneStore) : Statement (.notSti p) := (packS_op ..).trans rfl
theorem or3Sti (p : TwoStore) : Statement (.or3Sti p) := (packS_op ..).trans rfl
theorem subf3Stf (p : TwoStore) : Statement (.subf3Stf p) := (packS_op ..).trans rfl
theorem subi3Sti (p : TwoStore) : Statement (.subi3Sti p) := (packS_op ..).trans rfl
theorem xor3Sti (p : TwoStore) : Statement (.xor3Sti p) := (packS_op ..).trans rfl

end Sys2Proof.Laws.Encoding
end

