-- ==== Sys2Proof/Tests/Slice0.lean ====
section
/-! SUPPORT. The model's own tests: each check of WellFormed refuses an ill-formed term, every constructor's
decoding, one or two steps of each instruction, and a witness for the hypotheses of each statement. The expected
values are those of spec/95_test_vectors.md and of the examples of the rules, or worked out by hand from the
rules. -/

namespace Sys2Proof.Machine.Slice0Tests

/-! ## WellFormed refuses -/

theorem test_wf_displacement : (Instr.addi3 (.ind (.indexed .preAdd (.disp 2) 1)) (.reg (.r 0)) (.r 0)).wf = false ∧
    (Instr.addf3 (.reg 0) (.ind (.indexed .postAdd (.disp 0) 1)) 0).wf = false := by decide
theorem test_wf_parallel : (Instr.absiSti ⟨.indexed .preAdd (.disp 2) 1, 0, 0, .plain 2⟩).wf = false ∧
    (Instr.addi3Sti ⟨0, .plain 1, 0, 0, .indexed .preAdd (.disp 3) 1⟩).wf = false ∧
    (Instr.ldiLdi ⟨.plain 1, 0, .indexed .postSub (.disp 2) 2, 1⟩).wf = false ∧
    (Instr.stiSti ⟨0, .indexed .preSub (.disp 5) 1, 0, .plain 2⟩).wf = false := by decide
theorem test_wf_arrangement :
    (Instr.mpyf3Addf3 ⟨.reg 0, .ind (.plain 1), false, .reg 1, .ind (.plain 2), false⟩).wf = false ∧
    (Instr.mpyi3Subi3 ⟨.reg 0, .reg 1, false, .reg 2, .reg 3, false⟩).wf = false ∧
    (Instr.mpyi3Addi3 ⟨.ind (.indexed .preAdd (.disp 2) 1), .reg 1, false, .reg 2, .ind (.plain 1), false⟩).wf = false := by
  decide
theorem test_wf_ldp : (Instr.ldi (.imm 0x8A) .dp).wf = false ∧ (Instr.ldi (.imm 0x18A) .dp).wf = true := by decide

/-! ## Every constructor's decoding, by a word written out from R110 to R121 -/

theorem test_decode_integer_format_g_1 :
    decode 0b000_000001_00_00000_00000000000_00001#32 = .ok (.absi (.reg (.r 1)) (.r 0)) ∧
    decode 0b000_000010_01_01011_0001001000110100#32 = .ok (.addc (.mem (.dir 0x1234)) (.ar 3)) ∧
    decode 0b000_000100_10_00111_00000_011_00001110#32 = .ok (.addi (.mem (.ind (.indexed .preAdd (.disp 14) 3))) (.r 7)) ∧
    decode 0b000_000101_11_10101_1111111111111101#32 = .ok (.and (.imm 0xFFFD) .st) ∧
    decode 0b000_000110_10_10000_10101_101_00000000#32 = .ok (.andn (.mem (.ind (.indexed .postSub .ir1 5))) .dp) ∧
    decode 0b000_000111_00_10100_00000000000_10100#32 = .ok (.ash (.reg .sp) .sp) ∧
    decode 0b000_001001_10_11011_11000_111_00000000#32 = .ok (.cmpi (.mem (.ind (.plain 7))) .rc) ∧
    decode 0b000_010000_10_10001_11001_000_00000000#32 = .ok (.ldi (.mem (.ind (.bitrev 0))) .ir0) ∧
    decode 0b000_010011_01_10011_1000000000000000#32 = .ok (.lsh (.mem (.dir 0x8000)) .bk) ∧
    decode 0b000_010101_00_00100_00000000000_01110#32 = .ok (.mpyi (.reg (.ar 6)) (.r 4)) ∧
    decode 0b000_010110_10_01111_00110_010_11111111#32 = .ok (.negb (.mem (.ind (.indexed .postAddCirc (.disp 255) 2))) (.ar 7)) ∧
    decode 0b000_011000_11_10010_1000000000000001#32 = .ok (.negi (.imm 0x8001) .ir1) := by
  decide

theorem test_decode_integer_format_g_2 :
    decode 0b000_011011_10_11001_01011_001_00000000#32 = .ok (.not (.mem (.ind (.indexed .preSubMod .ir0 1))) .rs) ∧
    decode 0b000_100000_00_11010_00000000000_00001#32 = .ok (.or (.reg (.r 1)) .re) ∧
    decode 0b000_101101_01_00000_0001001000110100#32 = .ok (.subb (.mem (.dir 0x1234)) (.r 0)) ∧
    decode 0b000_101110_10_01011_00000_011_00001110#32 = .ok (.subc (.mem (.ind (.indexed .preAdd (.disp 14) 3))) (.ar 3)) ∧
    decode 0b000_110000_11_00111_1111111111111101#32 = .ok (.subi (.imm 0xFFFD) (.r 7)) ∧
    decode 0b000_110001_10_10101_10101_101_00000000#32 = .ok (.subrb (.mem (.ind (.indexed .postSub .ir1 5))) .st) ∧
    decode 0b000_110011_00_10000_00000000000_10100#32 = .ok (.subri (.reg .sp) .dp) ∧
    decode 0b000_110100_10_10100_11000_111_00000000#32 = .ok (.tstb (.mem (.ind (.plain 7))) .sp) ∧
    decode 0b000_110101_10_11011_11001_000_00000000#32 = .ok (.xor (.mem (.ind (.bitrev 0))) .rc) := by
  decide

theorem test_decode_float_format_g_1 :
    decode 0b000_000000_00_00001_00000000000_00001#32 = .ok (.absf (.reg 1) 1) ∧
    decode 0b000_000011_01_00100_0001001000110100#32 = .ok (.addf (.mem (.dir 0x1234)) 4) ∧
    decode 0b000_001000_10_00111_00001_011_00001110#32 = .ok (.cmpf (.mem (.ind (.indexed .preSub (.disp 14) 3))) 7) ∧
    decode 0b000_001101_11_00010_0001001000000000#32 = .ok (.lde (.imm 0x1200) 2) ∧
    decode 0b000_001110_10_00101_10100_101_00000000#32 = .ok (.ldf (.mem (.ind (.indexed .postAdd .ir1 5))) 5) ∧
    decode 0b000_010010_00_00000_00000000000_00111#32 = .ok (.ldm (.reg 7) 0) ∧
    decode 0b000_010100_10_00011_11000_111_00000000#32 = .ok (.mpyf (.mem (.ind (.plain 7))) 3) ∧
    decode 0b000_010111_10_00110_00111_010_00000001#32 = .ok (.negf (.mem (.ind (.indexed .postSubCirc (.disp 1) 2))) 6) ∧
    decode 0b000_011010_11_00001_1111100000000000#32 = .ok (.norm (.imm 0xF800) 1) ∧
    decode 0b000_100010_10_00100_01010_100_00000000#32 = .ok (.rnd (.mem (.ind (.indexed .preAddMod .ir0 4))) 4) ∧
    decode 0b000_101111_00_00111_00000000000_00001#32 = .ok (.subf (.reg 1) 7) ∧
    decode 0b000_110010_01_00010_0001001000110100#32 = .ok (.subrf (.mem (.dir 0x1234)) 2) := by
  decide

theorem test_decode_float_format_g_2 :
    decode 0b000_001010_00_01010_00000000000_00101#32 = .ok (.fix (.reg 5) (.ar 2)) ∧
    decode 0b000_001011_00_00110_00000000000_01100#32 = .ok (.float (.reg (.ar 4)) 6) := by
  decide

theorem test_decode_stores_stack_and_interlocked :
    decode 0b000_101000_01_00010_0000001000010001#32 = .ok (.stf 2 (.dir 0x0211)) ∧
    decode 0b000_101001_10_00101_00100_001_00000001#32 = .ok (.stfi 5 (.ind (.indexed .postAdd (.disp 1) 1))) ∧
    decode 0b000_101010_10_01001_11000_110_00000000#32 = .ok (.sti (.ar 1) (.ind (.plain 6))) ∧
    decode 0b000_101011_10_11011_10000_000_00000000#32 = .ok (.stii .rc (.ind (.indexed .preAdd .ir1 0))) ∧
    decode 0b000_001111_10_00011_11000_110_00000000#32 = .ok (.ldfi (.ind (.plain 6)) 3) ∧
    decode 0b000_010001_01_01001_0000001000010001#32 = .ok (.ldii (.dir 0x0211) (.ar 1)) ∧
    decode 0b000_011100_01_01000_0000000000000000#32 = .ok (.pop (.ar 0)) ∧
    decode 0b000_011101_01_00011_0000000000000000#32 = .ok (.popf 3) ∧
    decode 0b000_011110_01_10101_0000000000000000#32 = .ok (.push .st) ∧
    decode 0b000_011111_01_00111_0000000000000000#32 = .ok (.pushf 7) ∧
    decode 0b000_010000_11_10000_00000000_10001010#32 = .ok (.ldp 0x8A) ∧
    decode 0b000_101100_00_00000_0000000000000000#32 = .ok (.sigi) := by
  decide

theorem test_decode_rotates_and_control_format_g :
    decode 0b000_100011_11_00001_0000000000000001#32 = .ok (.rol (.r 1)) ∧
    decode 0b000_100100_11_01111_0000000000000001#32 = .ok (.rolc (.ar 7)) ∧
    decode 0b000_100101_11_10001_1111111111111111#32 = .ok (.ror .ir0) ∧
    decode 0b000_100110_11_00110_1111111111111111#32 = .ok (.rorc (.r 6)) ∧
    decode 0b000_001100_00_00000_0000000000000000#32 = .ok (.idle) ∧
    decode 0b000_001100_00_00000_0000000000000001#32 = .ok (.idle2) ∧
    decode 0b000_100001_00_00000_0000000000000000#32 = .ok (.maxspeed) ∧
    decode 0b000_100001_00_00000_0000000000000001#32 = .ok (.lopower) ∧
    decode 0b000_011001_00_00000_0000000000000000#32 = .ok (.nop none) ∧
    decode 0b000_011001_10_00000_00110_000_00000101#32 = .ok (.nop (some (.indexed .postAddCirc (.disp 5) 0))) ∧
    decode 0b000_100111_11_11011_0000000000000011#32 = .ok (.rpts (.imm 0x0003)) ∧
    decode 0b000_110110_01_00000_0100001100100001#32 = .ok (.iack (.dir 0x4321)) := by
  decide

theorem test_decode_format_t_1 :
    decode 0b001_000000_10_10000_000_00001_00100_000#32 = .ok (.addc3 (.reg (.r 1)) (.ind (.indexed .postAdd (.disp 1) 0)) .dp) ∧
    decode 0b001_000001_11_00011_00100_000_10010_011#32 = .ok (.addf3 (.ind (.indexed .postAdd (.disp 1) 0)) (.ind (.indexed .preAddMod .ir1 3)) 3) ∧
    decode 0b001_000010_00_11011_000_01101_000_11011#32 = .ok (.addi3 (.reg (.ar 5)) (.reg .rc) .rc) ∧
    decode 0b001_000011_11_10001_11000_011_00100_000#32 = .ok (.and3 (.ind (.plain 3)) (.ind (.indexed .postAdd (.disp 1) 0)) .ir0) ∧
    decode 0b001_000100_11_10011_01001_110_11000_011#32 = .ok (.andn3 (.ind (.indexed .preSub .ir0 6)) (.ind (.plain 3)) .bk) ∧
    decode 0b001_000101_00_00100_000_11011_000_11011#32 = .ok (.ash3 (.reg .rc) (.reg .rc) (.r 4)) ∧
    decode 0b001_000110_10_00000_000_00110_00100_000#32 = .ok (.cmpf3 (.reg 6) (.ind (.indexed .postAdd (.disp 1) 0))) ∧
    decode 0b001_000111_11_00000_00100_000_11000_011#32 = .ok (.cmpi3 (.ind (.indexed .postAdd (.disp 1) 0)) (.ind (.plain 3))) ∧
    decode 0b001_001000_00_11001_000_01101_000_11011#32 = .ok (.lsh3 (.reg (.ar 5)) (.reg .rc) .rs) ∧
    decode 0b001_001001_11_00011_00100_000_10010_011#32 = .ok (.mpyf3 (.ind (.indexed .postAdd (.disp 1) 0)) (.ind (.indexed .preAddMod .ir1 3)) 3) ∧
    decode 0b001_001010_11_00000_01001_110_11000_011#32 = .ok (.mpyi3 (.ind (.indexed .preSub .ir0 6)) (.ind (.plain 3)) (.r 0)) ∧
    decode 0b001_001011_00_01011_000_11011_000_11011#32 = .ok (.or3 (.reg .rc) (.reg .rc) (.ar 3)) := by
  decide

theorem test_decode_format_t_2 :
    decode 0b001_001100_10_00111_000_00001_00100_000#32 = .ok (.subb3 (.reg (.r 1)) (.ind (.indexed .postAdd (.disp 1) 0)) (.r 7)) ∧
    decode 0b001_001101_11_00111_00100_000_10010_011#32 = .ok (.subf3 (.ind (.indexed .postAdd (.disp 1) 0)) (.ind (.indexed .preAddMod .ir1 3)) 7) ∧
    decode 0b001_001110_00_10000_000_01101_000_11011#32 = .ok (.subi3 (.reg (.ar 5)) (.reg .rc) .dp) ∧
    decode 0b001_001111_11_00000_11000_011_00100_000#32 = .ok (.tstb3 (.ind (.plain 3)) (.ind (.indexed .postAdd (.disp 1) 0))) ∧
    decode 0b001_010000_11_11011_01001_110_11000_011#32 = .ok (.xor3 (.ind (.indexed .preSub .ir0 6)) (.ind (.plain 3)) .rc) := by
  decide

theorem test_decode_conditional_loads_and_control_1 :
    decode 0b0100_10100_11_00101_0001001000000000#32 = .ok (.ldfcond .zuf (.imm 0x1200) 5) ∧
    decode 0b0101_01001_00_11010_00000000000_01001#32 = .ok (.ldicond .gt (.reg (.ar 1)) .re) ∧
    decode 0b01100000_000000001000000001100000#32 = .ok (.br 0x008060) ∧
    decode 0b01100001_000000001000000001100001#32 = .ok (.brd 0x008061) ∧
    decode 0b01100010_000000001000000001100010#32 = .ok (.call 0x008062) ∧
    decode 0b01100100_000000001000000001100100#32 = .ok (.rptb 0x008064) ∧
    decode 0b01100110_000000000000000000000000#32 = .ok (.swi) ∧
    decode 0b011010_1_000_0_00101_0000000000001111#32 = .ok (.bcond .eq (.disp 0x000F)) ∧
    decode 0b011010_0_000_1_01100_00000000000_00001#32 = .ok (.bcondD .nv (.reg (.r 1))) ∧
    decode 0b011011_1_010_0_00110_1111111011111111#32 = .ok (.dbcond .ne 2 (.disp 0xFEFF)) ∧
    decode 0b011011_0_111_1_00001_00000000000_01001#32 = .ok (.dbcondD .lo 7 (.reg (.ar 1))) ∧
    decode 0b011100_1_0000_10000_0111111111111111#32 = .ok (.callcond .nlv (.disp 0x7FFF)) := by
  decide

theorem test_decode_conditional_loads_and_control_2 :
    decode 0b01110100000_00000_00000000001_00101#32 = .ok (.trapcond .u 5) ∧
    decode 0b01111000000_00011_0000000000000000#32 = .ok (.reticond .hi) ∧
    decode 0b01111000100_10011_0000000000000000#32 = .ok (.retscond .luf) := by
  decide

theorem test_decode_parallel_multiplies :
    decode 0b10_0000_00_0_1_100_101_00100_001_11000_010#32 = .ok (.mpyf3Addf3 ⟨.ind (.indexed .postAdd (.disp 1) 1), .ind (.plain 2), false, .reg 4, .reg 5, true⟩) ∧
    decode 0b10_0001_01_1_0_110_111_10001_011_01110_100#32 = .ok (.mpyf3Subf3 ⟨.ind (.indexed .preSub .ir1 3), .reg 6, true, .ind (.indexed .postAddCirc .ir0 4), .reg 7, false⟩) ∧
    decode 0b10_0010_10_0_0_000_001_11000_010_11001_101#32 = .ok (.mpyi3Addi3 ⟨.reg 0, .reg 1, false, .ind (.plain 2), .ind (.bitrev 5), false⟩) ∧
    decode 0b10_0011_11_1_1_010_011_11001_101_00100_001#32 = .ok (.mpyi3Subi3 ⟨.ind (.bitrev 5), .reg 2, true, .reg 3, .ind (.indexed .postAdd (.disp 1) 1), true⟩) := by
  decide

theorem test_decode_parallel_stores_1 :
    decode 0b11_00000_001_000_010_11000_010_00100_001#32 = .ok (.stfStf ⟨1, .indexed .postAdd (.disp 1) 1, 2, .plain 2⟩) ∧
    decode 0b11_00001_011_000_100_11000_010_00100_001#32 = .ok (.stiSti ⟨3, .indexed .postAdd (.disp 1) 1, 4, .plain 2⟩) ∧
    decode 0b11_00010_101_110_000_11000_010_00100_001#32 = .ok (.ldfLdf ⟨.indexed .postAdd (.disp 1) 1, 5, .plain 2, 6⟩) ∧
    decode 0b11_00011_111_000_000_11000_010_00100_001#32 = .ok (.ldiLdi ⟨.indexed .postAdd (.disp 1) 1, 7, .plain 2, 0⟩) ∧
    decode 0b11_00100_001_000_110_10001_011_00100_001#32 = .ok (.absfStf ⟨.indexed .postAdd (.disp 1) 1, 1, 6, .indexed .preSub .ir1 3⟩) ∧
    decode 0b11_00101_010_000_111_01110_100_11000_010#32 = .ok (.absiSti ⟨.plain 2, 2, 7, .indexed .postAddCirc .ir0 4⟩) ∧
    decode 0b11_00110_011_101_000_11001_101_10001_011#32 = .ok (.addf3Stf ⟨5, .indexed .preSub .ir1 3, 3, 0, .bitrev 5⟩) ∧
    decode 0b11_00111_100_110_001_00100_001_01110_100#32 = .ok (.addi3Sti ⟨6, .indexed .postAddCirc .ir0 4, 4, 1, .indexed .postAdd (.disp 1) 1⟩) ∧
    decode 0b11_01000_101_111_010_11000_010_11001_101#32 = .ok (.and3Sti ⟨7, .bitrev 5, 5, 2, .plain 2⟩) ∧
    decode 0b11_01001_110_000_011_10001_011_00100_001#32 = .ok (.ash3Sti ⟨0, .indexed .postAdd (.disp 1) 1, 6, 3, .indexed .preSub .ir1 3⟩) ∧
    decode 0b11_01010_111_000_100_01110_100_11000_010#32 = .ok (.fixSti ⟨.plain 2, 7, 4, .indexed .postAddCirc .ir0 4⟩) ∧
    decode 0b11_01011_000_000_101_11001_101_10001_011#32 = .ok (.floatStf ⟨.indexed .preSub .ir1 3, 0, 5, .bitrev 5⟩) := by
  decide

theorem test_decode_parallel_stores_2 :
    decode 0b11_01100_001_000_110_00100_001_01110_100#32 = .ok (.ldfStf ⟨.indexed .postAddCirc .ir0 4, 1, 6, .indexed .postAdd (.disp 1) 1⟩) ∧
    decode 0b11_01101_010_000_111_11000_010_11001_101#32 = .ok (.ldiSti ⟨.bitrev 5, 2, 7, .plain 2⟩) ∧
    decode 0b11_01110_011_101_000_10001_011_00100_001#32 = .ok (.lsh3Sti ⟨5, .indexed .postAdd (.disp 1) 1, 3, 0, .indexed .preSub .ir1 3⟩) ∧
    decode 0b11_01111_100_110_001_01110_100_11000_010#32 = .ok (.mpyf3Stf ⟨6, .plain 2, 4, 1, .indexed .postAddCirc .ir0 4⟩) ∧
    decode 0b11_10000_101_111_010_11001_101_10001_011#32 = .ok (.mpyi3Sti ⟨7, .indexed .preSub .ir1 3, 5, 2, .bitrev 5⟩) ∧
    decode 0b11_10001_110_000_011_00100_001_01110_100#32 = .ok (.negfStf ⟨.indexed .postAddCirc .ir0 4, 6, 3, .indexed .postAdd (.disp 1) 1⟩) ∧
    decode 0b11_10010_111_000_100_11000_010_11001_101#32 = .ok (.negiSti ⟨.bitrev 5, 7, 4, .plain 2⟩) ∧
    decode 0b11_10011_000_000_101_10001_011_00100_001#32 = .ok (.notSti ⟨.indexed .postAdd (.disp 1) 1, 0, 5, .indexed .preSub .ir1 3⟩) ∧
    decode 0b11_10100_001_011_110_01110_100_11000_010#32 = .ok (.or3Sti ⟨3, .plain 2, 1, 6, .indexed .postAddCirc .ir0 4⟩) ∧
    decode 0b11_10101_010_100_111_11001_101_10001_011#32 = .ok (.subf3Stf ⟨4, .indexed .preSub .ir1 3, 2, 7, .bitrev 5⟩) ∧
    decode 0b11_10110_011_101_000_00100_001_01110_100#32 = .ok (.subi3Sti ⟨5, .indexed .postAddCirc .ir0 4, 3, 0, .indexed .postAdd (.disp 1) 1⟩) ∧
    decode 0b11_10111_100_110_001_11000_010_11001_101#32 = .ok (.xor3Sti ⟨6, .bitrev 5, 4, 1, .plain 2⟩) := by
  decide

/-! ## Small states and small readings -/

/-- The state after reset with R0, R1 and R2 set. -/
def withRegs (a b c : Ext) : State := ((State.reset.setR 0 a).setR 1 b).setR 2 c

/-- C is 1. -/
def carry (s : State) : State := s.setSt { s.st with c := true }

/-- Z is 1. -/
def zero (s : State) : State := s.setSt { s.st with z := true }

/-- GIE is 1. -/
def enabled (s : State) : State := s.setSt { s.st with gie := true }

/-- A state at an address, with a word there. -/
def holding (s : State) (a : Nat) (w : Word) : State := { s with mem := s.mem.write a w }

/-- A fact about the state an instruction leaves; false where it stops. -/
def leaves (i : Instr) (s : State) (p : State → Bool) : Bool :=
  match exec i s with
  | .next t => p t
  | .fault f => nomatch f
  | .refused _ => false

/-- R0 as an integer, with C, V, Z, N. -/
def gives (i : Instr) (s : State) (x : Word) (c v z n : Bool) : Bool :=
  leaves i s fun t => intView (t.rn 0) == x && t.st.c == c && t.st.v == v && t.st.z == z && t.st.n == n

/-- R0 as a float, with V, UF, Z, N; C stays 0. -/
def givesF (i : Instr) (s : State) (x : Ext) (z n : Bool) : Bool :=
  leaves i s fun t => t.rn 0 == x && t.st.v == false && t.st.uf == false && t.st.z == z && t.st.n == n && t.st.c == false

/-- The instruction is refused for that reason. -/
def refusedFor (i : Instr) (s : State) (r : Refusal) : Bool :=
  match exec i s with
  | .refused q => q == r
  | .fault f => nomatch f
  | .next _ => false

/-! ## One step: integer arithmetic (vectors A, K, M, S of 95_test_vectors.md sections 2.1, 2.2) -/

theorem test_addi : gives (.addi (.imm 1) (.r 0)) (withRegs 0x7FFFFFFF 0 0) 0x80000000 false true false true ∧
    gives (.addi (.imm 0xFFFF) (.r 0)) (withRegs 5 0 0) 4 true false false false := by decide
theorem test_addi_other : leaves (.addi (.imm 1) (.ar 0)) (State.reset.setAr 0 0x7FFFFFFF)
    (fun t => t.arn 0 == 0x80000000 && t.st == State.reset.st) := by decide
theorem test_addc : gives (.addc (.imm 0) (.r 0)) (carry (withRegs 0xFFFFFFFF 0 0)) 0 true false true false := by decide
theorem test_subi : gives (.subi (.imm 6) (.r 0)) (withRegs 5 0 0) 0xFFFFFFFF true false false true ∧
    gives (.subi (.imm 1) (.r 0)) (withRegs 0x80000000 0 0) 0x7FFFFFFF false true false false := by decide
theorem test_subb : gives (.subb (.imm 5) (.r 0)) (carry (withRegs 5 0 0)) 0xFFFFFFFF true false false true ∧
    gives (.subb (.imm 0xFFFF) (.r 0)) (carry (withRegs 0 0 0)) 0 true false true false := by decide
theorem test_subri : gives (.subri (.imm 3) (.r 0)) (withRegs 10 0 0) 0xFFFFFFF9 true false false true := by decide
theorem test_subrb : gives (.subrb (.imm 3) (.r 0)) (carry (withRegs 3 0 0)) 0xFFFFFFFF true false false true := by decide
theorem test_negi : gives (.negi (.reg (.r 0)) (.r 0)) (withRegs 1 0 0) 0xFFFFFFFF true false false true ∧
    gives (.negi (.reg (.r 0)) (.r 0)) (withRegs 0x80000000 0 0) 0x80000000 true true false true := by decide
theorem test_negb : gives (.negb (.reg (.r 1)) (.r 0)) (carry (withRegs 0 5 0)) 0xFFFFFFFA true false false true := by decide
theorem test_absi : gives (.absi (.reg (.r 1)) (.r 0)) (withRegs 0 0xFFFFFFFB 0) 5 false false false false ∧
    gives (.absi (.reg (.r 1)) (.r 0)) (withRegs 0 0x80000000 0) 0x80000000 false true false true := by decide
theorem test_addi3 : gives (.addi3 (.reg (.r 1)) (.reg (.r 2)) (.r 0)) (withRegs 0 2 5) 7 false false false false := by decide
theorem test_addc3 : gives (.addc3 (.reg (.r 1)) (.reg (.r 2)) (.r 0)) (carry (withRegs 0 2 5)) 8 false false false false := by
  decide
theorem test_subi3 : gives (.subi3 (.reg (.r 1)) (.reg (.r 2)) (.r 0)) (withRegs 0 2 5) 0xFFFFFFFD true false false true := by
  decide
theorem test_subb3 : gives (.subb3 (.reg (.r 1)) (.reg (.r 2)) (.r 0)) (carry (withRegs 0 5 2)) 2 false false false false := by
  decide
theorem test_cmpi : leaves (.cmpi (.reg (.r 1)) (.ar 0)) ((withRegs 0 0x7FFFFFFF 0).setAr 0 0xFFFFFFFF)
    (fun t => t.arn 0 == 0xFFFFFFFF && condTrue .hi t.st && condTrue .lt t.st && condTrue .ne t.st) ∧
    gives (.cmpi (.imm 1) (.r 0)) (withRegs 0x80000000 0 0) 0x80000000 false true false false := by decide
theorem test_cmpi3 : gives (.cmpi3 (.reg (.r 0)) (.reg (.r 1))) (withRegs 3 5 0) 3 true false false true := by decide
theorem test_mpyi : gives (.mpyi (.reg (.r 1)) (.r 0)) (withRegs 0x7FFFFF 0x7FFFFF 0) 0xFF000001 false true false true ∧
    gives (.mpyi (.reg (.r 1)) (.r 0)) (withRegs 0xFF800000 0xFF800000 0) 0 false true true false := by decide
theorem test_mpyi3 : gives (.mpyi3 (.reg (.r 1)) (.reg (.r 2)) (.r 0)) (withRegs 0 0x8000 0x10000) 0x80000000 false true
    false true := by decide
theorem test_subc : gives (.subc (.reg (.r 1)) (.r 0)) (withRegs 7 5 0) 5 false false false false ∧
    gives (.subc (.reg (.r 1)) (.r 0)) (withRegs 0xC0000000 0xFFFFFFFF 0) 0x80000000 false false false false := by decide

/-! ## One step: logic, shifts, rotates (vectors L, H, O of sections 2.3, 2.4) -/

theorem test_and : gives (.and (.imm 0xFFFF) (.r 0)) (carry (withRegs 0x12345678 0 0)) 0x5678 true false false false := by
  decide
theorem test_or : gives (.or (.imm 0x8000) (.r 0)) (carry (withRegs 0 0 0)) 0x8000 true false false false := by decide
theorem test_xor : gives (.xor (.imm 0xFFFF) (.r 0)) (carry (withRegs 0xFFFFFFFF 0 0)) 0xFFFF0000 true false false true := by
  decide
theorem test_not : gives (.not (.imm 0xFFFF) (.r 0)) (carry State.reset) 0xFFFF0000 true false false true := by decide
theorem test_andn : gives (.andn (.imm 0xF) (.r 0)) (carry (withRegs 0xFF 0 0)) 0xF0 true false false false := by decide
theorem test_and3 : gives (.and3 (.reg (.r 1)) (.reg (.r 2)) (.r 0)) (withRegs 9 0xF0F 0xFF) 0xF false false false false := by
  decide
theorem test_andn3 : gives (.andn3 (.reg (.r 1)) (.reg (.r 2)) (.r 0)) (withRegs 9 0xFF 0xF) 0xF0 false false false false := by
  decide
theorem test_or3 : gives (.or3 (.reg (.r 1)) (.reg (.r 2)) (.r 0)) (withRegs 9 0xF00 0xF0) 0xFF0 false false false false := by
  decide
theorem test_xor3 : gives (.xor3 (.reg (.r 1)) (.reg (.r 2)) (.r 0)) (carry (withRegs 0 0xF0F 0xFF)) 0xFF0 true false false
    false := by decide
theorem test_tstb : gives (.tstb (.imm 0x8000) (.r 0)) (carry (withRegs 0xFFFF8000 0 0)) 0xFFFF8000 true false false false ∧
    leaves (.tstb (.imm 1) (.ar 0)) (State.reset.setAr 0 2) (fun t => t.arn 0 == 2 && t.st.z) := by decide
theorem test_tstb3 : gives (.tstb3 (.reg (.r 1)) (.reg (.r 2))) (withRegs 7 0xF0 0xF) 7 false false true false := by decide
theorem test_rol : gives (.rol (.r 0)) (withRegs 0x80000001 0 0) 3 true false false false ∧
    leaves (.rol (.ar 1)) (State.reset.setAr 1 0x80000000) (fun t => t.arn 1 == 1 && t.st.c && !t.st.z) := by decide
theorem test_rolc : gives (.rolc (.r 0)) (withRegs 0x80000001 0 0) 2 true false false false ∧
    gives (.rolc (.r 0)) (carry (withRegs 0 0 0)) 1 false false false false := by decide
theorem test_ror : gives (.ror (.r 0)) (withRegs 1 0 0) 0x80000000 true false false true := by decide
theorem test_rorc : gives (.rorc (.r 0)) (withRegs 1 0 0) 0 true false true false ∧
    gives (.rorc (.r 0)) (carry (withRegs 0 0 0)) 0x80000000 false false false true := by decide
theorem test_lsh : gives (.lsh (.imm 4) (.r 0)) (withRegs 0x12345678 0 0) 0x23456780 true false false false ∧
    gives (.lsh (.reg (.r 1)) (.r 0)) (withRegs 0x80000001 0x7F 0) 0x40000000 true false false false := by decide
theorem test_lsh_far : gives (.lsh (.reg (.r 1)) (.r 0)) (withRegs 0xFFFFFFFF 32 0) 0 true false true false ∧
    gives (.lsh (.reg (.r 1)) (.r 0)) (withRegs 0xFFFFFFFF 0xFFFFFFDF 0) 0 false false true false := by decide
theorem test_ash : gives (.ash (.imm 1) (.r 0)) (withRegs 0xA0000000 0 0) 0x40000000 true true false false ∧
    gives (.ash (.reg (.r 1)) (.r 0)) (withRegs 0x80000000 0xFFFFFFC0 0) 0xFFFFFFFF true false false true := by decide
theorem test_ash_far : gives (.ash (.reg (.r 1)) (.r 0)) (withRegs 0xFFFFFFFF 32 0) 0 true true true false ∧
    gives (.ash (.imm 31) (.r 0)) (withRegs 0xFFFFFFFF 0 0) 0x80000000 true false false true := by decide
theorem test_lsh3 : gives (.lsh3 (.reg (.r 2)) (.reg (.r 1)) (.r 0)) (withRegs 0 4 0xF) 0xF0 false false false false := by
  decide
theorem test_ash3 : gives (.ash3 (.reg (.r 2)) (.reg (.r 1)) (.r 0)) (withRegs 0 0xFFFFFFFF 0x80000001) 0xC0000000 true
    false false true := by decide

/-! ## One step: floats and conversions (vectors F, X of sections 2.5, 2.6) -/

theorem test_addf : givesF (.addf (.reg 1) 0) (withRegs 0x0040000000 0x0120000000 0) 0x0200000000 false false ∧
    givesF (.addf (.imm 0x1200) 0) (withRegs 0x0040000000 0 0) 0x0200000000 false false := by decide
theorem test_addf3 : givesF (.addf3 (.reg 1) (.reg 2) 0) (withRegs 9 0x0240000000 0x0200000000) 0x0320000000 false false := by
  decide
theorem test_subf : givesF (.subf (.reg 1) 0) (withRegs 0 0x0120000000 0) 0x00C0000000 false true := by decide
theorem test_subf3 : givesF (.subf3 (.reg 1) (.reg 2) 0) (withRegs 9 0 0x0120000000) 0x00C0000000 false true := by decide
theorem test_subrf : givesF (.subrf (.reg 1) 0) (withRegs 0 0x0120000000 0) 0x0040000000 false false := by decide
theorem test_mpyf : givesF (.mpyf (.reg 1) 0) (withRegs 0x0040000000 0x0080000000 0) 0x01C0000000 false true ∧
    givesF (.mpyf (.reg 1) 0) (withRegs 0xFF00000000 0xFF00000000 0) 0xFE00000000 false false := by decide
theorem test_mpyf3 : givesF (.mpyf3 (.reg 1) (.reg 2) 0) (withRegs 9 0x0140000000 0x0200000000) 0x0340000000 false false := by
  decide
theorem test_negf : givesF (.negf (.reg 1) 0) (withRegs 7 0 0) 0xFF80000000 false true ∧
    givesF (.negf (.reg 1) 0) (withRegs 7 0x0080000000 0) 0x0100000000 false false := by decide
theorem test_absf : givesF (.absf (.reg 1) 0) (withRegs 7 0x02B8000000 0) 0x0248000000 false false := by decide
theorem test_cmpf : givesF (.cmpf (.reg 1) 0) (withRegs 0x0100000000 0x0140000000 0) 0x0100000000 false true := by decide
theorem test_cmpf3 : givesF (.cmpf3 (.reg 1) (.reg 0)) (withRegs 0x0100000000 0x0140000000 0) 0x0100000000 false false := by
  decide
theorem test_float : givesF (.float (.reg (.r 1)) 0) (withRegs 0 0x80000000 0) 0x1E80000000 false true ∧
    givesF (.float (.reg (.r 1)) 0) (withRegs 0 0x0728E780 0) 0x1A651CF000 false false := by decide
theorem test_fix : gives (.fix (.reg 1) (.r 0)) (withRegs 0 0x1A651CF000 0) 0x0728E780 false false false false ∧
    gives (.fix (.reg 1) (.r 0)) (withRegs 0 0x1E80000000 0) 0x80000000 false false false true := by decide
theorem test_rnd : givesF (.rnd (.reg 1) 0) (withRegs 0 0x0340000000 0) 0x0340000000 false false := by decide

/-! ## Worked examples of values (Tabla 3-1 and the word 00000000h; section 1) -/

theorem test_widen_narrow : widen 0x02B80000#32 = 0x02B8000000#40 ∧ narrow 0x03400000FF#40 = 0x03400000#32 ∧
    widenShort 0x1200#16 = 0x0120000000#40 ∧ isZeroF (widenShort 0x8000#16) = true ∧ isZeroF 0 = false := by decide

/-! ## One step: loads, stores, stack (vectors T of section 2.8) -/

theorem test_ldi : leaves (.ldi (.imm 0xFFFF) (.r 0)) (withRegs 0x0500000000 0 0)
    (fun t => t.rn 0 == 0x05FFFFFFFF && t.st.n && !t.st.z) ∧
    leaves (.ldi (.mem (.ind (.plain 0))) (.r 1)) (holding (State.reset.setAr 0 0x200) 0x200 0x80000000)
      (fun t => intView (t.rn 1) == 0x80000000 && t.st.n) := by decide
theorem test_ldf : leaves (.ldf (.mem (.dir 0x210)) 2) (holding State.reset 0x210 0x03400000)
    (fun t => t.rn 2 == 0x0340000000 && !t.st.z && !t.st.n) ∧ givesF (.ldf (.imm 0x8000) 0) State.reset 0x8000000000 true
      false := by decide
theorem test_lde : leaves (.lde (.reg 1) 0) (withRegs 0x0260000000 0x0500000000 0) (fun t => t.rn 0 == 0x0560000000) := by
  decide
theorem test_ldm : leaves (.ldm (.reg 1) 0) (withRegs 0x0260000000 0x0040000000 0) (fun t => t.rn 0 == 0x0240000000) := by
  decide
theorem test_ldicond : leaves (.ldicond .eq (.reg (.r 1)) (.r 0)) (zero (withRegs 0 7 0)) (fun t => t.rn 0 == 7 && t.st.z) ∧
    leaves (.ldicond .lt (.mem (.ind (.indexed .postAdd (.disp 1) 0))) (.r 0)) ((withRegs 3 7 0).setAr 0 0x200)
      (fun t => t.rn 0 == 3 && t.arn 0 == 0x201) := by decide
theorem test_ldfcond : leaves (.ldfcond .ne (.reg 1) 0) (withRegs 0 0x0260000000 0) (fun t => t.rn 0 == 0x0260000000) ∧
    leaves (.ldfcond .ne (.reg 1) 0) (zero (withRegs 5 0x0260000000 0)) (fun t => t.rn 0 == 5) := by decide
theorem test_ldp : leaves (.ldp 0x8A) State.reset (fun t => t.dp == 0x8A && t.pc == 1) := by decide
theorem test_stf : leaves (.stf 2 (.dir 0x211)) (withRegs 0 0 0x03400000FF) (fun t => t.mem.read 0x211 == 0x03400000) := by
  decide
theorem test_sti : leaves (.sti (.r 0) (.ind (.indexed .postAdd (.disp 1) 1))) ((withRegs 0x05FFFFFFFF 0 0).setAr 1 0x220)
    (fun t => t.mem.read 0x220 == 0xFFFFFFFF && t.arn 1 == 0x221) := by decide
theorem test_push : leaves (.push (.r 0)) ((withRegs 0x0512345678 0 0).setSp 0x2FF)
    (fun t => t.sp == 0x300 && t.mem.read 0x300 == 0x12345678) ∧
    leaves (.push .sp) (State.reset.setSp 0x2FF) (fun t => t.sp == 0x300 && t.mem.read 0x300 == 0x2FF) := by decide
theorem test_pushf : leaves (.pushf 0) ((withRegs 0x0512345678 0 0).setSp 0x300)
    (fun t => t.sp == 0x301 && t.mem.read 0x301 == 0x05123456) := by decide
theorem test_pop : leaves (.pop .sp) (holding (State.reset.setSp 0x300) 0x300 0x123) (fun t => t.sp == 0x123) ∧
    leaves (.pop (.r 0)) (holding (State.reset.setSp 0x300) 0x300 0x12345678)
      (fun t => intView (t.rn 0) == 0x12345678 && t.sp == 0x2FF && !t.st.z) := by decide
theorem test_popf : leaves (.popf 0) (holding (State.reset.setSp 0x301) 0x301 0x05123456)
    (fun t => t.rn 0 == 0x0512345600 && t.sp == 0x300) := by decide
theorem test_stack_wraps : leaves (.push (.r 0)) ((withRegs 7 0 0).setSp 0xFFFFFF)
    (fun t => t.sp == 0x1000000 && t.mem.read 0 == 7) := by decide

/-! ## Addresses (vectors D of section 2.7) -/

/-- The address and AR1 after. -/
def addresses (i : Indirect) (s : State) (a : Addr) (after : Word) : Bool :=
  match indirect i s with
  | .ok (b, t) => b == a && t.arn 1 == after
  | .error _ => false

/-- AR1, IR0, IR1 and BK set. -/
def aux (ar ir0 ir1 bk : Word) : State := { State.reset.setAr 1 ar with ir0 := ir0, ir1 := ir1, bk := bk }

theorem test_linear_forms : addresses (.indexed .preAdd (.disp 255) 1) (aux 0x809C05 16 3 0) 0x809D04 0x809C05 ∧
    addresses (.indexed .preAddMod (.disp 2) 1) (aux 0x809C05 16 3 0) 0x809C07 0x809C07 ∧
    addresses (.indexed .postSub .ir1 1) (aux 0x809C05 16 3 0) 0x809C05 0x809C02 ∧
    addresses (.indexed .preSub (.disp 1) 1) (aux 0 16 3 0) 0xFFFFFF 0 ∧
    addresses (.indexed .postAdd (.disp 1) 1) (aux 0xFFFFFF 16 3 0) 0xFFFFFF 0x1000000 := by decide
theorem test_circular_forms : addresses (.indexed .postAddCirc (.disp 1) 1) (aux 0x809C07 0 0 8) 0x809C07 0x809C00 ∧
    addresses (.indexed .postSubCirc (.disp 1) 1) (aux 0x809C00 0 0 8) 0x809C00 0x809C07 ∧
    addresses (.indexed .postAddCirc (.disp 1) 1) (aux 0x10004 0 0 5) 0x10004 0x10000 := by decide
theorem test_bitreversed_forms : addresses (.bitrev 1) (aux 0x809800 4 0 0) 0x809800 0x809804 ∧
    addresses (.bitrev 1) (aux 0x809804 4 0 0) 0x809804 0x809802 ∧
    addresses (.bitrev 1) (aux 0x809807 4 0 0) 0x809807 0x809800 ∧
    addresses (.bitrev 1) (aux 0x1003 3 0 0) 0x1003 0x1001 := by decide +kernel

/-! ## One step: program control (vectors B, N, P of sections 2.9, 2.10) -/

/-- The state after reset at an address, SP = 2FFh. -/
def at_ (a : Addr) : State := { State.reset.setSp 0x2FF with pc := a }

/-- The machine has the low-power unit. -/
def lc31 (s : State) : State := { s with params := { s.params with lc31LowPower := true } }

theorem test_bcond : leaves (.bcond .eq (.disp 0x10)) (zero (at_ 0x200)) (fun t => t.pc == 0x210) ∧
    leaves (.bcond .eq (.disp 0x10)) (at_ 0x200) (fun t => t.pc == 0x201) := by decide
theorem test_bcond_register : leaves (.bcond .u (.reg (.r 1))) ((at_ 0x200).setR 1 0x12001234) (fun t => t.pc == 0x1234) := by
  decide
theorem test_bcondD : leaves (.bcondD .u (.disp 2)) (at_ 0x1000)
    (fun t => t.pc == 0x1001 && t.pend == some ⟨0x1005, .three⟩) := by decide
theorem test_br : leaves (.br 0x8000) (at_ 0x100) (fun t => t.pc == 0x8000) := by decide
theorem test_brd : leaves (.brd 0x8000) (at_ 0x100) (fun t => t.pc == 0x101 && t.pend == some ⟨0x8000, .three⟩) ∧
    refusedFor (.brd 0x8000) { at_ 0x100 with pend := some ⟨0, .one⟩ } .inDelaySlot := by decide
theorem test_call : leaves (.call 0x400) (at_ 0x200) (fun t => t.pc == 0x400 && t.sp == 0x300 && t.mem.read 0x300 == 0x201) ∧
    leaves (.call 0x400) (at_ 0xFFFFFF) (fun t => t.pc == 0x400 && t.mem.read 0x300 == 0) := by decide
theorem test_callcond : leaves (.callcond .ne (.reg (.r 1))) (zero (at_ 0x200)) (fun t => t.pc == 0x201 && t.sp == 0x2FF) ∧
    leaves (.callcond .ne (.reg (.r 1))) ((at_ 0x200).setR 1 0x400)
      (fun t => t.pc == 0x400 && t.mem.read 0x300 == 0x201) := by decide
theorem test_retscond : leaves (.retscond .u) (holding { at_ 0x400 with sp := 0x300 } 0x300 0x201)
    (fun t => t.pc == 0x201 && t.sp == 0x2FF && !t.st.gie) ∧ leaves (.retscond .eq) (at_ 0x400) (fun t => t.pc == 0x401) := by
  decide
theorem test_reticond : leaves (.reticond .u) (holding { at_ 0x400 with sp := 0x300 } 0x300 0x201)
    (fun t => t.pc == 0x201 && t.sp == 0x2FF && t.st.gie) := by decide
theorem test_trapcond : leaves (.trapcond .u 5) (enabled (holding (at_ 0x300) 0x25 0x4000))
    (fun t => t.pc == 0x4000 && t.sp == 0x300 && t.mem.read 0x300 == 0x301 && !t.st.gie) ∧
    leaves (.trapcond .eq 5) (at_ 0x300) (fun t => t.pc == 0x301 && t.sp == 0x2FF) := by decide
theorem test_swi : refusedFor .swi State.reset .softwareInterrupt := by decide
theorem test_dbcond : leaves (.dbcond .ne 2 (.disp 0xFEFF)) ((at_ 0x200).setAr 2 1)
    (fun t => t.pc == 0x100 && t.arn 2 == 0) ∧ leaves (.dbcond .ne 2 (.disp 0xFEFF)) ((at_ 0x200).setAr 2 0)
      (fun t => t.pc == 0x201 && t.arn 2 == 0xFFFFFFFF) := by decide
theorem test_dbcondD : leaves (.dbcondD .ne 2 (.disp 0xFEFD)) (zero ((at_ 0x200).setAr 2 5))
    (fun t => t.pc == 0x201 && t.arn 2 == 4 && t.pend == none) ∧ leaves (.dbcondD .u 2 (.disp 0xFEFD))
      ((at_ 0x200).setAr 2 5) (fun t => t.pc == 0x201 && t.pend == some ⟨0x100, .three⟩) := by decide
theorem test_nop : leaves (.nop none) (at_ 0xFFFFFF) (fun t => t.pc == 0) ∧
    leaves (.nop (some (.indexed .preAddMod .ir0 3))) { State.reset.setAr 3 0x8ABCD0 with ir0 := 0xE }
      (fun t => t.arn 3 == 0x8ABCDE) := by decide
theorem test_iack : leaves (.iack (.dir 0)) State.reset (fun t => t.iack && t.trace == [.iack true, .iack false]) := by decide
theorem test_idle : leaves .idle (enabled (at_ 0x200)) (fun t => t.pc == 0x201 && t.waiting == some .idle) ∧
    refusedFor .idle (at_ 0x200) .idleWithoutGie := by decide
/-- At RE with RM = 1, IDLE has not completed while it waits, so RC stays (R13, R371). -/
theorem test_idle_at_repeat_end : leaves .idle { at_ 0x200 with st := { Status.reset with rm := true, gie := true }, re := 0x200, rc := 5 }
    (fun t => t.pc == 0x201 && t.rc == 5 && t.st.rm && t.waiting == some .idle) := by decide
theorem test_idle2 : leaves .idle2 (lc31 (enabled (at_ 0x200))) (fun t => t.pc == 0x201 && t.waiting == some .idle2) ∧
    refusedFor .idle2 (enabled (at_ 0x200)) .lowPowerAbsent := by decide
theorem test_lopower : leaves .lopower (lc31 State.reset) (fun t => t.clock == .dividedBy16 && t.pc == 1) ∧
    refusedFor .lopower State.reset .lowPowerAbsent := by decide
theorem test_maxspeed : leaves .maxspeed (lc31 { State.reset with clock := .dividedBy16 }) (fun t => t.clock == .normal) := by
  decide
theorem test_rpts : leaves (.rpts (.imm 3)) (at_ 0x200)
    (fun t => t.rc == 3 && t.rs == 0x201 && t.re == 0x201 && t.st.rm && t.pc == 0x201 && t.rpts == .armed) ∧
    refusedFor (.rpts (.imm 0x8000)) (at_ 0x200) .repeatCount := by decide
theorem test_rptb : leaves (.rptb 0x202) { at_ 0x200 with rc := 2 }
    (fun t => t.rc == 2 && t.rs == 0x201 && t.re == 0x202 && t.st.rm && t.pc == 0x201) ∧
    refusedFor (.rptb 0x200) (at_ 0x200) .emptyRepeatBlock := by decide

/-! ## One step: interlocked (vectors I of section 2.11; here external memory begins at 000000h, internal RAM at
809800h) -/

theorem test_ldfi : leaves (.ldfi (.ind (.plain 0)) 2) { holding (State.reset.setAr 0 0x20) 0x20 0x03400000 with xf1 := false }
    (fun t => !t.xf0 && t.lock && t.rn 2 == 0x0340000000) := by decide
theorem test_ldii : leaves (.ldii (.dir 0x10) (.r 1)) (holding State.reset 0x10 7)
    (fun t => !t.xf0 && t.waiting == some (.ldii 0x10 (.r 1)) && t.pc == 0) ∧
    leaves (.ldii (.dir 0x9810) (.r 1)) (holding { State.reset with dp := 0x80 } 0x809810 7)
      (fun t => t.xf0 && t.rn 1 == 7 && t.pc == 1) := by decide
theorem test_stii : leaves (.stii (.r 0) (.dir 0x10)) { withRegs 1 0 0 with xf0 := false, lock := true }
    (fun t => t.xf0 && !t.lock && t.mem.read 0x10 == 1) := by decide
theorem test_stfi : leaves (.stfi 2 (.ind (.plain 0))) { (withRegs 0 0 0x03400000FF).setAr 0 0x20 with xf0 := false, lock := true }
    (fun t => t.xf0 && !t.lock && t.mem.read 0x20 == 0x03400000) := by decide
theorem test_sigi : leaves .sigi State.reset (fun t => !t.xf0 && t.waiting == some .sigi) ∧
    leaves .sigi { State.reset with xf0 := false, xf1 := false, lock := true } (fun t => t.xf0 && !t.lock && t.pc == 1 && t.waiting == none) := by decide

/-! ## One step: parallel (vectors Q of section 2.12, and the examples of the rules of 48_parallel.md) -/

/-- AR0 = 200h, AR1 = 210h, words a and b there. -/
def two (s : State) (a b : Word) : State := holding (holding ((s.setAr 0 0x200).setAr 1 0x210) 0x200 a) 0x210 b

theorem test_ldiLdi : leaves (.ldiLdi ⟨.indexed .postAdd (.disp 1) 0, 0, .indexed .postAdd (.disp 1) 1, 1⟩)
    (two State.reset 0x11 0x22) (fun t => t.rn 0 == 0x11 && t.rn 1 == 0x22 && t.arn 0 == 0x201 && t.arn 1 == 0x211) ∧
    refusedFor (.ldiLdi ⟨.indexed .postAdd (.disp 1) 0, 0, .indexed .postAdd (.disp 1) 0, 1⟩) State.reset .auxUsedTwice := by
  decide
theorem test_ldfLdf : leaves (.ldfLdf ⟨.plain 0, 0, .plain 1, 1⟩) (two State.reset 0x01000000 0x02B80000)
    (fun t => t.rn 0 == 0x0100000000 && t.rn 1 == 0x02B8000000 && !t.st.n) := by decide
theorem test_stiSti : leaves (.stiSti ⟨0, .plain 0, 1, .plain 1⟩) (two (withRegs 1 2 0) 0 0)
    (fun t => t.mem.read 0x200 == 1 && t.mem.read 0x210 == 2) ∧
    refusedFor (.stiSti ⟨0, .plain 0, 1, .plain 0⟩) State.reset .sameStoreAddress := by decide
theorem test_stfStf : leaves (.stfStf ⟨0, .plain 0, 1, .plain 1⟩) (two (withRegs 0x0512345678 0x0340000000 0) 0 0)
    (fun t => t.mem.read 0x200 == 0x05123456 && t.mem.read 0x210 == 0x03400000) := by decide
theorem test_addi3Sti : leaves (.addi3Sti ⟨1, .plain 0, 1, 1, .plain 1⟩) (two (withRegs 0 5 0) 3 0)
    (fun t => t.rn 1 == 8 && t.mem.read 0x210 == 5) := by decide
theorem test_ldfStf : leaves (.ldfStf ⟨.plain 0, 0, 0, .plain 1⟩) (two (withRegs 0 0 0) 0x01000000 9)
    (fun t => t.rn 0 == 0x0100000000 && t.mem.read 0x210 == 0) := by decide
theorem test_ldiSti : leaves (.ldiSti ⟨.plain 0, 0, 1, .plain 1⟩) (two (withRegs 0x0500000000 7 0) 0xFFFFFFFF 0)
    (fun t => t.rn 0 == 0x05FFFFFFFF && t.mem.read 0x210 == 7 && !t.st.n) := by decide
theorem test_subi3Sti : leaves (.subi3Sti ⟨1, .plain 0, 2, 0, .plain 1⟩) (two (withRegs 9 10 0) 3 0)
    (fun t => t.rn 2 == 7 && t.mem.read 0x210 == 9) ∧
    leaves (.subi3Sti ⟨1, .plain 0, 2, 0, .plain 1⟩)
      { two (withRegs 9 10 0) 3 0 with params := { defaultParams with parallelSubOrder := .vendor } }
      (fun t => t.rn 2 == 0xFFFFFFF9) := by decide
theorem test_mpyf3Addf3 : leaves (.mpyf3Addf3 ⟨.ind (.plain 0), .ind (.plain 1), false, .reg 0, .reg 2, false⟩)
    (two (withRegs 0x0300000000 0 0x0040000000) 0x00400000 0x01000000)
    (fun t => t.rn 0 == 0x0140000000 && t.rn 2 == 0x0318000000 && !t.st.z && !t.st.n && !t.st.v && !t.st.uf) := by decide
theorem test_mpyf3Subf3 : leaves (.mpyf3Subf3 ⟨.ind (.plain 0), .ind (.plain 1), true, .reg 0, .reg 2, true⟩)
    (two (withRegs 0x0300000000 0 0x0040000000) 0x00400000 0x01000000)
    (fun t => t.rn 1 == 0x0140000000 && t.rn 3 == 0x0250000000) := by decide
theorem test_mpyi3Addi3 : leaves (.mpyi3Addi3 ⟨.reg 0, .reg 1, false, .ind (.plain 0), .ind (.plain 1), false⟩)
    (two (withRegs 3 4 0) 5 6) (fun t => t.rn 0 == 12 && t.rn 2 == 11) := by decide
theorem test_mpyi3Subi3 : leaves (.mpyi3Subi3 ⟨.reg 0, .reg 1, false, .ind (.plain 0), .ind (.plain 1), false⟩)
    (two (withRegs 3 4 0) 6 5) (fun t => t.rn 0 == 12 && t.rn 2 == 1) := by decide
theorem test_negiSti : leaves (.negiSti ⟨.plain 0, 0, 0, .plain 1⟩) (two (withRegs 7 0 0) 1 0)
    (fun t => t.rn 0 == 0xFFFFFFFF && t.mem.read 0x210 == 7 && t.st.c) := by decide
theorem test_absiSti : leaves (.absiSti ⟨.plain 0, 0, 0, .plain 1⟩) (two (withRegs 7 0 0) 0xFFFFFFFB 0)
    (fun t => t.rn 0 == 5 && t.mem.read 0x210 == 7) := by decide
theorem test_notSti : leaves (.notSti ⟨.plain 0, 0, 0, .plain 1⟩) (two (withRegs 7 0 0) 0xFF 0)
    (fun t => t.rn 0 == 0xFFFFFF00 && t.mem.read 0x210 == 7 && t.st.n) := by decide
theorem test_fixSti : leaves (.fixSti ⟨.plain 0, 0, 1, .plain 1⟩) (two (withRegs 0 7 0) 0x03400000 0)
    (fun t => t.rn 0 == 12 && t.mem.read 0x210 == 7) := by decide
theorem test_and3Sti : leaves (.and3Sti ⟨1, .plain 0, 2, 0, .plain 1⟩) (two (withRegs 9 0xF0F 0) 0xFF 0)
    (fun t => t.rn 2 == 0xF && t.mem.read 0x210 == 9) := by decide
theorem test_or3Sti : leaves (.or3Sti ⟨1, .plain 0, 2, 0, .plain 1⟩) (two (withRegs 9 0xF0F 0) 0xFF 0)
    (fun t => t.rn 2 == 0xFFF) := by decide
theorem test_xor3Sti : leaves (.xor3Sti ⟨1, .plain 0, 2, 0, .plain 1⟩) (two (withRegs 9 0xF0F 0) 0xFF 0)
    (fun t => t.rn 2 == 0xFF0) := by decide
theorem test_ash3Sti : leaves (.ash3Sti ⟨1, .plain 0, 2, 0, .plain 1⟩) (two (withRegs 9 0xFFFFFFFF 0) 0x80000001 0)
    (fun t => t.rn 2 == 0xC0000000 && t.st.c) := by decide
theorem test_lsh3Sti : leaves (.lsh3Sti ⟨1, .plain 0, 2, 0, .plain 1⟩) (two (withRegs 9 4 0) 0xF 0)
    (fun t => t.rn 2 == 0xF0 && t.mem.read 0x210 == 9) := by decide
theorem test_mpyi3Sti : leaves (.mpyi3Sti ⟨1, .plain 0, 2, 0, .plain 1⟩) (two (withRegs 9 3 0) 4 0)
    (fun t => t.rn 2 == 12 && t.mem.read 0x210 == 9) := by decide
theorem test_absfStf : leaves (.absfStf ⟨.plain 0, 0, 1, .plain 1⟩) (two (withRegs 0 0x0340000000 0) 0x02B80000 0)
    (fun t => t.rn 0 == 0x0248000000 && t.mem.read 0x210 == 0x03400000) := by decide
theorem test_negfStf : leaves (.negfStf ⟨.plain 0, 0, 1, .plain 1⟩) (two (withRegs 7 0x0340000000 0) 0x00800000 0)
    (fun t => t.rn 0 == 0x0100000000 && t.mem.read 0x210 == 0x03400000) := by decide
theorem test_floatStf : leaves (.floatStf ⟨.plain 0, 0, 1, .plain 1⟩) (two (withRegs 7 0x0340000000 0) 5 0)
    (fun t => t.rn 0 == 0x0220000000 && t.mem.read 0x210 == 0x03400000) := by decide
theorem test_addf3Stf : leaves (.addf3Stf ⟨1, .plain 0, 2, 0, .plain 1⟩) (two (withRegs 0 0x0240000000 0) 0x02000000 9)
    (fun t => t.rn 2 == 0x0320000000 && t.mem.read 0x210 == 0) := by decide
theorem test_subf3Stf : leaves (.subf3Stf ⟨1, .plain 0, 2, 0, .plain 1⟩) (two (withRegs 0 0x0140000000 0) 0x01000000 9)
    (fun t => t.rn 2 == 0) := by decide
theorem test_mpyf3Stf : leaves (.mpyf3Stf ⟨1, .plain 0, 2, 0, .plain 1⟩) (two (withRegs 0 0x0140000000 0) 0x02000000 9)
    (fun t => t.rn 2 == 0x0340000000) := by decide

/-! ## Witnesses: states and operands that meet the hypotheses of each statement -/

/-- The instruction answers a next state. -/
def completes (i : Instr) (s : State) : Bool := leaves i s fun _ => true

theorem completes_next {i : Instr} {s : State} (h : completes i s = true) : ∃ t, exec i s = .next t := by
  unfold completes leaves at h
  split at h
  · exact ⟨_, ‹_›⟩
  · rename_i f _
    exact nomatch f
  · cases h

/-- Words 100h to 10Fh are a program of one instruction; `pc` is there. -/
def programmed : State :=
  { State.reset with params := { defaultParams with programText := [⟨0x100, 0x10⟩] }, pc := 0x100 }

/-- In internal RAM: DP = 80h, AR0 = 809800h, AR1 = 809900h. -/
def internal : State := { (State.reset.setAr 0 0x809800).setAr 1 0x809900 with dp := 0x80 }

/-- Source 0, at 40h, is enabled and pending, and GIE is 1. -/
def interrupted : State :=
  { State.reset with sources := [⟨.fixed 0x40, true, true⟩], st := { Status.reset with gie := true } }

/-- Other agents write 7 at 40h between the two accesses of an instruction. -/
def shared (s : State) : State := { s with between := [(0x40, 7)] }

theorem witness_DecodeOfEncode : ∃ i : Instr, i.wf = true :=
  ⟨.mpyi3Subi3 ⟨.ind (.plain 5), .reg 2, true, .reg 3, .ind (.bitrev 1), true⟩, by decide⟩
theorem witness_DecodedIsWellFormed : ∃ w i, decode w = .ok i := ⟨0x8A40A5C1#32, _, rfl⟩

/-- A field of a word, as a number. -/
def field (w : Word) (lo n : Nat) : Nat := (w.extractLsb' lo n).toNat

/-- The decoder refuses the word. -/
def noInstruction (w : Word) : Bool :=
  match decode w with
  | .ok _ => false
  | .error _ => true

theorem witness_WordsThatAreNoInstruction_operations :
    (field 0x1B800000 29 3 = 0 ∧ 0x37 ≤ field 0x1B800000 23 6) ∧
    (field 0x28800000 29 3 = 1 ∧ 0x11 ≤ field 0x28800000 23 6) ∧
    (field 0x63000000 29 3 = 3 ∧ field 0x63000000 24 5 ∈ [3, 5, 7, 28, 29, 30, 31]) ∧
    (4 ≤ field 0x90000000 29 3 ∧ field 0x90000000 29 3 ≤ 5 ∧ 4 ≤ field 0x90000000 26 4) ∧
    (6 ≤ field 0xF0000000 29 3 ∧ 0x18 ≤ field 0xF0000000 25 5) ∧
    (field 0x45800000 29 3 = 2 ∧ field 0x45800000 23 5 = 11) ∧
    (field 0x68150000 29 3 = 3 ∧ 2 ≤ field 0x68150000 26 3 ∧ 21 ≤ field 0x68150000 16 5) := by decide
theorem witness_WordsThatAreNoInstruction_registers :
    (field 0x001C0000 29 3 = 0 ∧ field 0x001C0000 23 6 ≠ 0x19 ∧ 28 ≤ field 0x001C0000 16 5) ∧
    (field 0x201C0000 29 3 = 1 ∧ field 0x201C0000 23 6 ∉ [6, 7, 15] ∧ 28 ≤ field 0x201C0000 16 5) ∧
    (field 0x401C0000 29 3 = 2 ∧ 28 ≤ field 0x401C0000 16 5) ∧
    (field 0x00000020 29 3 = 0 ∧ field 0x00000020 21 2 = 0 ∧ field 0x00000020 5 11 ≠ 0) ∧
    (field 0x0000001C 29 3 = 0 ∧ field 0x0000001C 21 2 = 0 ∧ 28 ≤ field 0x0000001C 0 5) ∧
    (field 0x20001C00 29 3 = 1 ∧ field 0x20001C00 21 1 = 0 ∧ 28 ≤ field 0x20001C00 8 5) ∧
    (field 0x2000001C 29 3 = 1 ∧ field 0x2000001C 22 1 = 0 ∧ 28 ≤ field 0x2000001C 0 5) ∧
    (field 0x00080000 29 3 = 0 ∧ field 0x00080000 23 6 = 0 ∧ 8 ≤ field 0x00080000 16 5) := by decide
theorem witness_WordsThatAreNoInstruction_operands :
    (field 0x0040D000 29 3 = 0 ∧ field 0x0040D000 21 2 = 2 ∧ 26 ≤ field 0x0040D000 11 5) ∧
    (field 0x4040D000 29 3 = 2 ∧ field 0x4040D000 21 2 = 2 ∧ 26 ≤ field 0x4040D000 11 5) ∧
    (field 0x2020D000 29 3 = 1 ∧ field 0x2020D000 21 1 = 1 ∧ 26 ≤ field 0x2020D000 11 5) ∧
    (field 0x204000D0 29 3 = 1 ∧ field 0x204000D0 22 1 = 1 ∧ 26 ≤ field 0x204000D0 3 5) ∧
    (4 ≤ field 0x8000D000 29 3 ∧ 26 ≤ field 0x8000D000 11 5) ∧
    (4 ≤ field 0x800000D0 29 3 ∧ 26 ≤ field 0x800000D0 3 5) ∧
    (field 0x07800000 29 3 = 0 ∧ field 0x07800000 23 6 = 15 ∧ field 0x07800000 21 2 = 0) := by decide
theorem witness_WordsThatAreNoInstruction_sources :
    (field 0x4000001C 29 3 = 2 ∧ field 0x4000001C 21 2 = 0 ∧ 28 ≤ field 0x4000001C 0 5) ∧
    (field 0x50000020 29 3 = 2 ∧ field 0x50000020 21 2 = 0 ∧ field 0x50000020 5 11 ≠ 0) ∧
    (field 0x6800001F 29 3 = 3 ∧ field 0x6800001F 26 3 = 2 ∧ field 0x6800001F 25 1 = 0 ∧ 28 ≤ field 0x6800001F 0 5) ∧
    (field 0x05000008 29 3 = 0 ∧ field 0x05000008 21 2 = 0 ∧ field 0x05000008 23 6 = 10 ∧ 8 ≤ field 0x05000008 0 5) ∧
    (field 0x20880000 29 3 = 1 ∧ field 0x20880000 23 6 = 1 ∧ 8 ≤ field 0x20880000 16 5) ∧
    (field 0x23000800 29 3 = 1 ∧ field 0x23000800 23 6 = 6 ∧ field 0x23000800 21 1 = 0 ∧ 8 ≤ field 0x23000800 8 5) ∧
    (field 0x26800008 29 3 = 1 ∧ field 0x26800008 23 6 = 13 ∧ field 0x26800008 22 1 = 0 ∧ 8 ≤ field 0x26800008 0 5) ∧
    (field 0x40080000 29 3 = 2 ∧ field 0x40080000 28 1 = 0 ∧ 8 ≤ field 0x40080000 16 5) ∧
    (field 0x40000008 29 3 = 2 ∧ field 0x40000008 28 1 = 0 ∧ field 0x40000008 21 2 = 0 ∧ 8 ≤ field 0x40000008 0 5) := by decide
theorem witness_WordsThatAreNoInstruction_fixed :
    (field 0x0CA00000 29 3 = 0 ∧ field 0x0CA00000 23 6 = 0x19 ∧ field 0x0CA00000 21 2 = 1) ∧
    (field 0x06000002 29 3 = 0 ∧ field 0x06000002 23 6 = 0x0C ∧ 2 ≤ field 0x06000002 0 16) ∧
    (field 0x16000001 29 3 = 0 ∧ field 0x16000001 23 6 = 0x2C ∧ field 0x16000001 0 16 ≠ 0) ∧
    (field 0x0C800001 29 3 = 0 ∧ field 0x0C800001 23 6 = 0x19 ∧ field 0x0C800001 21 2 = 0 ∧ field 0x0C800001 0 16 ≠ 0) ∧
    (field 0x0E000000 29 3 = 0 ∧ field 0x0E000000 23 6 = 0x1C ∧ field 0x0E000000 21 2 ≠ 1) ∧
    (field 0x11E00000 29 3 = 0 ∧ field 0x11E00000 23 6 = 0x23 ∧ field 0x11E00000 0 16 ≠ 1) ∧
    (field 0x12E00001 29 3 = 0 ∧ field 0x12E00001 23 6 = 0x25 ∧ field 0x12E00001 0 16 ≠ 0xFFFF) ∧
    (field 0x13800000 29 3 = 0 ∧ field 0x13800000 23 6 = 0x27 ∧ field 0x13800000 16 5 ≠ 0x1B) ∧
    (field 0x1B210000 29 3 = 0 ∧ field 0x1B210000 23 6 = 0x36 ∧ field 0x1B210000 16 5 ≠ 0) ∧
    (field 0x68400000 29 3 = 3 ∧ field 0x68400000 26 3 = 2 ∧ field 0x68400000 22 3 ≠ 0) ∧
    (field 0x70200000 29 3 = 3 ∧ field 0x70200000 26 3 = 4 ∧ field 0x70200000 21 4 ≠ 0) ∧
    (field 0x74000000 29 3 = 3 ∧ field 0x74000000 26 3 = 5 ∧ field 0x74000000 5 11 ≠ 1) ∧
    (field 0x78000001 29 3 = 3 ∧ field 0x78000001 26 3 = 6 ∧ field 0x78000001 0 16 ≠ 0) ∧
    (field 0x66000001 29 3 = 3 ∧ field 0x66000001 24 5 = 6 ∧ field 0x66000001 0 24 ≠ 0) ∧
    (6 ≤ field 0xC8080000 29 3 ∧ field 0xC8080000 25 5 = 4 ∧ field 0xC8080000 19 3 ≠ 0) ∧
    (6 ≤ field 0xC4010000 29 3 ∧ field 0xC4010000 25 5 = 2 ∧ field 0xC4010000 16 3 ≠ 0) := by decide
theorem test_words_with_other_fields : [0x4000001C#32, 0x50000020#32, 0x6800001F#32, 0x05000008#32, 0x20880000#32, 0x23000800#32,
    0x26800008#32, 0x40080000#32, 0x40000008#32, 0x0CA00000#32, 0x06000002#32, 0x16000001#32, 0x0C800001#32, 0x0E000000#32,
    0x11E00000#32, 0x12E00001#32, 0x13800000#32, 0x1B210000#32, 0x68400000#32, 0x70200000#32, 0x74000000#32, 0x78000001#32,
    0x66000001#32, 0xC8080000#32, 0xC4010000#32].all noInstruction = true := by decide +kernel
theorem test_words_that_are_no_instruction : [0x1B800000#32, 0x28800000#32, 0x63000000#32, 0x90000000#32, 0xF0000000#32, 0x45800000#32, 0x68150000#32, 0x001C0000#32,
    0x201C0000#32, 0x401C0000#32, 0x00000020#32, 0x0000001C#32, 0x20001C00#32, 0x2000001C#32, 0x00080000#32, 0x0040D000#32,
    0x4040D000#32, 0x2020D000#32, 0x204000D0#32, 0x8000D000#32, 0x800000D0#32, 0x07800000#32].all noInstruction = true := by decide +kernel
theorem witness_WordsThatAreNoInstruction_step : ∃ (s : State) (w : Word) (s1 : State), (sampleInputs s).waiting = none ∧
    (sampleInputs s).takeable = none ∧ (sampleInputs s).pend = none ∧ (sampleInputs s).rpts = .off ∧
    (sampleInputs s).pc.toNat ∉ (sampleInputs s).stored ∧
    memRead (sampleInputs s).pc (sampleInputs s) = .ok (w, s1) ∧ noInstruction w = true :=
  ⟨holding State.reset 0 0xFFFFFFFF, _, _, rfl, rfl, rfl, rfl, by decide, rfl, by decide⟩
theorem witness_Step_off : ∃ w s1 i, (sampleInputs State.reset).waiting = none ∧ (sampleInputs State.reset).takeable = none ∧
    (sampleInputs State.reset).pend = none ∧ (sampleInputs State.reset).rpts = .off ∧
    (sampleInputs State.reset).pc.toNat ∉ (sampleInputs State.reset).stored ∧
    memRead (sampleInputs State.reset).pc (sampleInputs State.reset) = .ok (w, s1) ∧ decode w = .ok i :=
  ⟨_, _, _, rfl, rfl, rfl, rfl, by decide, rfl, rfl⟩
theorem witness_Step_stored : ∃ s : State, (sampleInputs s).waiting = none ∧ (sampleInputs s).takeable = none ∧
    (sampleInputs s).pend = none ∧ (sampleInputs s).rpts ≠ .looping ∧
    (sampleInputs s).pc.toNat ∈ (sampleInputs s).stored :=
  ⟨{ State.reset with stored := [0] }, rfl, rfl, rfl, by decide, by decide⟩
theorem witness_Step_slot : ∃ (s : State) (w : Word) (s1 : State) (i : Instr), (sampleInputs s).waiting = none ∧
    (sampleInputs s).takeable = none ∧ (sampleInputs s).pend ≠ none ∧ (sampleInputs s).atRepeatEnd = false ∧
    (sampleInputs s).rpts = .off ∧ memRead (sampleInputs s).pc (sampleInputs s) = .ok (w, s1) ∧ decode w = .ok i :=
  ⟨{ State.reset with pend := some ⟨8, .one⟩ }, _, _, _, rfl, rfl, by decide, rfl, rfl, rfl, rfl⟩
theorem witness_Step_armed : ∃ (s : State) (w : Word) (s1 : State) (i : Instr), (sampleInputs s).waiting = none ∧
    (sampleInputs s).takeable = none ∧ (sampleInputs s).pend = none ∧ (sampleInputs s).rpts = .armed ∧
    memRead (sampleInputs s).pc (sampleInputs s) = .ok (w, s1) ∧ decode w = .ok i :=
  ⟨{ State.reset with rpts := .armed }, _, _, _, rfl, rfl, rfl, rfl, rfl, rfl⟩
theorem witness_Step_looping : ∃ (s : State) (i : Instr), (sampleInputs s).waiting = none ∧
    (sampleInputs s).takeable = none ∧ (sampleInputs s).pend = none ∧ (sampleInputs s).rpts = .looping ∧
    decode (sampleInputs s).ir = .ok i :=
  ⟨{ State.reset with rpts := .looping }, _, rfl, rfl, rfl, rfl, rfl⟩

theorem witness_EveryStepKeepsTheInvariant : Inv State.reset ∧ ∃ t, step State.reset = .next t :=
  ⟨⟨rfl, rfl, rfl, rfl, rfl, by decide, nofun⟩, completes_next (i := .absf (.reg 0) 0) (by decide)⟩

theorem witness_WhatNoStepChanges_store : programmed.kindAt 0x10F ≠ .unmapped ∧ programmed.inProgram 0x10F = true ∧
    programmed.inProgram 0x110 = false := by decide
theorem witness_WhatNoStepChanges_step : (∃ t, step programmed = .next t) ∧ programmed.inProgram 0x100 = true ∧
    (sampleInputs programmed).waiting = none ∧ (sampleInputs programmed).takeable = none :=
  ⟨⟨_, rfl⟩, by decide, rfl, rfl⟩
theorem witness_WhatNoStepChanges_sources : (∃ t, step { interrupted with waiting := some (.store 0 7) } = .next t) ∧
    (sampleInputs interrupted).sources[0]? = some ⟨.fixed 0x40, true, true⟩ ∧
    (sampleInputs interrupted).sources[1]? = none := ⟨⟨_, rfl⟩, rfl, rfl⟩
theorem witness_WhatNoStepChanges_agents : State.reset.kindAt 0x809800 = .internalRam ∧
    (agentsAct (shared State.reset)).mem.read 0x40 = 7 := by decide
/-- The program holds the interlock while another agent would write at 40h. -/
def heldLock : State := { shared State.reset with xf0 := false, lock := true }
theorem witness_WhatNoStepChanges_lock : heldLock.locked 0x40 = true ∧ heldLock.kindAt 0x40 = .externalStrb ∧
    heldLock.inProgram 0x40 = false ∧ (agentsAct heldLock).mem.read 0x40 = 0 := by decide
theorem witness_WhatNoStepChanges_repeat : ∃ s : State, s.rpts = .looping := ⟨{ State.reset with rpts := .looping }, rfl⟩

theorem witness_RegisterFrame : (∃ t, exec (.addi (.imm 1) (.r 0)) State.reset = .next t) ∧
    mayWrite (.addi (.imm 1) (.r 0)) .rc = false ∧ mayWrite (.addi (.imm 1) (.r 0)) .st = false ∧
    State.reset.st.rm = false ∧ mayWrite (.addi (.imm 1) (.r 0)) (.r 7) = false :=
  ⟨completes_next (by decide), by decide, by decide, rfl, by decide⟩
theorem witness_FlagFrameAndLatches : (∃ t, exec (.addi (.imm 1) (.r 0)) (withRegs 0x7FFFFFFF 0 0) = .next t ∧
      t.waiting = none ∧ t.st.v = true) ∧ mayWriteFlag State.reset.params.flagPolicy (.addi (.imm 1) (.r 0)) .luf = false ∧
    mayWriteFlag State.reset.params.flagPolicy (.addi (.imm 1) (.r 0)) .v = true ∧ mayWrite (.addi (.imm 1) (.r 0)) .st = false :=
  ⟨⟨_, rfl, rfl, rfl⟩, by decide, by decide, by decide⟩
theorem witness_FlagFrameAndLatches_set : ∃ t, exec (.addf (.imm 0) 0) { State.reset with st := { Status.reset with
    lv := true, luf := true } } = .next t := completes_next (by decide)
theorem witness_FlagsOfResults : State.reset.params.flagPolicy = defaultFlagPolicy := rfl
theorem witness_MemoryFrame : (∃ t, exec (.push (.r 0)) State.reset = .next t) ∧
    0#24 ∉ storeAddresses (.push (.r 0)) State.reset ∧ 1#24 ∈ storeAddresses (.push (.r 0)) State.reset ∧
    ∀ v, (0#24, v) ∉ State.reset.between :=
  ⟨completes_next (by decide), by decide, by decide, nofun⟩
theorem witness_MemoryFrame_parallel : (∃ t, exec (.stiSti ⟨0, .plain 0, 1, .plain 1⟩) internal = .next t) ∧
    storeAddresses (.stiSti ⟨0, .plain 0, 1, .plain 1⟩) internal = [0x809800, 0x809900] ∧
    (∃ t, exec (.stiSti ⟨0, .plain 0, 1, .plain 1⟩) (shared internal) = .next t) ∧
    ∀ v, (0x41#24, v) ∉ (shared internal).between :=
  ⟨completes_next (by decide), by decide, completes_next (by decide), by simp [shared]⟩
theorem witness_OtherStateFrame : (∃ t, exec (.iack (.dir 0)) State.reset = .next t) ∧ State.reset.waiting = none :=
  ⟨completes_next (by decide), rfl⟩
theorem witness_OtherStateFrame_lock : leaves (.ldfi (.dir 0) 0) { State.reset with xf1 := false } (fun t => t.lock) ∧
    leaves .sigi { heldLock with xf1 := false } (fun t => !t.lock) := by decide

theorem witness_MemoryAccesses : State.reset.writable 0xFFFFFF ∧ State.reset.kindAt 0xFFFFFF ≠ .peripheral ∧
    State.reset.kindAt 0x802000 = .unmapped ∧ State.reset.kindAt 0x808000 = .peripheral := by
  unfold State.writable
  decide
theorem witness_MemoryAccesses_agents : State.reset.kindAt 0x40 = .externalStrb ∧ State.reset.kindAt 0x800000 = .externalMstrb ∧
    State.reset.kindAt 0x804000 = .externalIostrb ∧ State.reset.inProgram 0x40 = false ∧ State.reset.locked 0x40 = false ∧
    ({ State.reset with params := { State.reset.params with lockedData := [⟨0x50, 1⟩] }, xf0 := false, lock := true } : State).locked 0x40 = false := by
  decide
theorem witness_MemoryAccesses_operand : ∃ s1, ea (.dir 0x2000) internal = .ok (0x802000, s1) ∧
    internal.kindAt 0x802000 = .unmapped := ⟨_, rfl, by decide⟩

theorem witness_IndirectForms : (∃ v, circular 6 0x805 3 false = .ok v) ∧ (∃ v, circular 6 0x805 3 true = .ok v) ∧
    (∃ e, circular 0 0x805 3 false = .error e) ∧ (∃ e, circular 6 0x806 3 true = .error e) :=
  ⟨⟨_, rfl⟩, ⟨_, rfl⟩, ⟨_, rfl⟩, ⟨_, rfl⟩⟩
theorem witness_CircularAndReverseCarrySums : 0 < (6#32).toNat ∧
    (0x805#32).toNat % 2 ^ (Nat.log2 (6#32).toNat + 1) < (6#32).toNat ∧ (6#32).toNat ≤ (6#32).toNat := by decide
theorem witness_CircularAndReverseCarrySums_refused : ¬0 < (0#32).toNat ∧
    ¬(0x806#32).toNat % 2 ^ (Nat.log2 (6#32).toNat + 1) < (6#32).toNat ∧ ¬(7#32).toNat ≤ (6#32).toNat := by decide
theorem witness_CircularAndReverseCarrySums_reversed : (0x10#32).toNat < 2 ^ 5 ∧ 5 ≤ 31 ∧ (0xFFFFFF#32).toNat < 2 ^ 24 := by decide

theorem witness_OperandValues : ∃ a s1 v s2, indirect (.bitrev 0) internal = .ok (a, s1) ∧ memRead a s1 = .ok (v, s2) ∧ namedReg (.r 3) = true ∧
    (∃ b w s3 s4, clash (.bitrev 0) (.plain 1) = false ∧ indirect (.plain 1) (agentsAct s2) = .ok (b, s3) ∧
      memRead b s3 = .ok (w, s4)) := ⟨_, _, _, _, rfl, rfl, rfl, _, _, _, _, by decide, rfl, rfl⟩
theorem witness_OperandValues_memory : ∃ a s1 w s2, ea (.dir 0x9800) internal = .ok (a, s1) ∧ memRead a s1 = .ok (w, s2) :=
  ⟨_, _, _, _, rfl, rfl⟩
theorem witness_OperandValues_pair :
    pairIndirects ⟨.ind (.bitrev 0), .reg 4, true, .ind (.plain 1), .reg 5, true⟩ = [.bitrev 0, .plain 1] ∧
    pairValues (fun n : Rn => BitVec.ofNat 32 n.val) [.ind (.bitrev 0), .reg 4, .ind (.plain 1), .reg 5] [7#32, 8#32] =
      [7, 4, 8, 5] := by decide

theorem witness_RefusedOperands_clash :
    indirects (.addi3 (.ind (.plain 0)) (.ind (.indexed .postAdd (.disp 1) 0)) (.r 1)) =
      [.plain 0, .indexed .postAdd (.disp 1) 0] ∧ clash (.plain 0) (.indexed .postAdd (.disp 1) 0) = true ∧
    indirects (.stiSti ⟨0, .bitrev 3, 1, .bitrev 3⟩) = [.bitrev 3, .bitrev 3] ∧ clash (.bitrev 3) (.bitrev 3) = true := by
  decide
theorem witness_RefusedOperands_destination :
    .bitrev 2 ∈ indirects (.ldi (.mem (.ind (.bitrev 2))) (.ar 2)) ∧ clobbers (.bitrev 2) (.ar 2) = true ∧
    .ar 2 ∈ destinations (.ldi (.mem (.ind (.bitrev 2))) (.ar 2)) := by decide
theorem witness_RefusedOperands_unnamed : .ie ∈ operandRegs (.bcond .u (.reg .ie)) ∧
    .iof ∈ operandRegs (.sti .iof (.dir 0)) ∧ namedReg .ie = false ∧ namedReg .ifr = false ∧ namedReg .iof = false := by
  decide
theorem witness_RefusedOperands_loads : ∃ p : LoadPair, p.dst1 = p.dst2 := ⟨⟨.plain 0, 3, .plain 1, 3⟩, rfl⟩
theorem witness_RefusedOperands_overflowMode : ∃ v s1, srcInt .signed (.imm 0x80) State.reset = .ok (v, s1) ∧
    v.getLsbD State.reset.params.stLayout.ovm.val = true := ⟨_, _, rfl, by decide⟩
theorem witness_RefusedOperands_overflowModeOthers :
    (∃ v s1, memRead (low24 (0 : Word)) (holding State.reset 0 0x80) = .ok (v, s1) ∧ v.getLsbD 7 = true) ∧
    (∃ d v s1, readInt .st State.reset = .ok d ∧ srcInt .unsigned (.imm 0x80) State.reset = .ok (v, s1) ∧
      (d ||| v).getLsbD State.reset.params.stLayout.ovm.val = true) ∧ condTrue .u State.reset.st = true ∧
    State.reset.st.ovm = false ∧ (∃ t, exec (.ldi (.imm 0x3F7F) .st) State.reset = .next t) :=
  ⟨⟨_, _, rfl, by decide⟩, ⟨_, _, _, rfl, rfl, by decide⟩, rfl, rfl, completes_next (by decide)⟩

theorem witness_RegistersAndStatusLayout : (∃ t, writeInt .st 0xFFFFFF7F State.reset = .ok t) ∧
    (∃ t, writeInt (.r 7) 0xFFFFFFFF State.reset = .ok t) := ⟨⟨_, rfl⟩, ⟨_, rfl⟩⟩
theorem witness_ConditionsAfterComparison : ∃ a b s1, readInt (.r 0) (withRegs 0x80000000 0 0) = .ok a ∧
    srcInt .signed (.reg (.r 1)) (withRegs 0x80000000 0 0) = .ok (b, s1) ∧ overflows (a.toInt - b.toInt) = false ∧
    (withRegs 0x80000000 0 0).params.flagPolicy = defaultFlagPolicy :=
  ⟨_, _, _, rfl, rfl, by decide, rfl⟩
theorem witness_ConditionsAfterComparison_own : ∃ a b s1, readInt (.ar 0) internal = .ok a ∧
    srcInt .signed (.mem (.ind (.bitrev 0))) internal = .ok (b, s1) := ⟨_, _, _, rfl, rfl⟩

theorem witness_AddAndSubtract : ∃ d v s1 u, srcClobbers (.imm 1) (.r 0) = false ∧ readInt (.r 0) State.reset = .ok d ∧
    srcInt .signed (.imm 1) State.reset = .ok (v, s1) ∧ s1.integerWrite .arithInt (.r 0) (v + d) (some false) false = .ok u :=
  ⟨_, _, _, _, by decide, rfl, rfl, rfl⟩
theorem witness_AddAndSubtract_other : ∃ d v s1 u, srcClobbers (.mem (.ind (.bitrev 1))) (.ar 0) = false ∧
    readInt (.ar 0) State.reset = .ok d ∧ srcInt .signed (.mem (.ind (.bitrev 1))) State.reset = .ok (v, s1) ∧
    s1.integerWrite .arithInt (.ar 0) (v + d) (some false) false = .ok u := ⟨_, _, _, _, by decide, rfl, rfl, rfl⟩
theorem witness_NegateAbsoluteAndDivisionStep : ∃ v s1 u, srcClobbers (.reg (.r 1)) (.r 0) = false ∧
    srcInt .signed (.reg (.r 1)) State.reset = .ok (v, s1) ∧ s1.integerWrite .arithInt (.r 0) (-v) (some false) false = .ok u :=
  ⟨_, _, _, by decide, rfl, rfl⟩
theorem witness_NegateAbsoluteAndDivisionStep_subc : ∃ d v s1 u, readInt (.r 0) (withRegs 5 5 0) = .ok d ∧
    srcInt .signed (.reg (.r 1)) (withRegs 5 5 0) = .ok (v, s1) ∧ v.toNat ≤ d.toNat ∧
    writeInt (.r 0) 1 s1 = .ok u := ⟨_, _, _, _, rfl, rfl, by decide, rfl⟩
theorem witness_NegateAbsoluteAndDivisionStep_less : ∃ d v s1 u, readInt (.r 0) (withRegs 4 5 0) = .ok d ∧
    srcInt .signed (.reg (.r 1)) (withRegs 4 5 0) = .ok (v, s1) ∧ d.toNat < v.toNat ∧
    writeInt (.r 0) 8 s1 = .ok u := ⟨_, _, _, _, rfl, rfl, by decide, rfl⟩
theorem witness_CompareAndTest : (∃ a b s1, readInt .st State.reset = .ok a ∧
      srcInt .signed (.imm 1) State.reset = .ok (b, s1)) ∧ (∃ b s1, srcInt .unsigned (.imm 1) State.reset = .ok (b, s1)) ∧
    (∃ r, both3Int (.reg (.r 0)) (.ind (.plain 0)) State.reset = .ok r) := ⟨⟨_, _, _, rfl, rfl⟩, ⟨_, _, rfl⟩, ⟨_, rfl⟩⟩
theorem witness_MultiplyIntegers : ∃ d v s1 u, readInt (.r 0) (withRegs 0xFF800000 0x7FFFFF 0) = .ok d ∧
    srcInt .signed (.reg (.r 1)) (withRegs 0xFF800000 0x7FFFFF 0) = .ok (v, s1) ∧
    (-8388608 ≤ v.toInt ∧ v.toInt ≤ 8388607 ∧ -8388608 ≤ d.toInt ∧ d.toInt ≤ 8388607) ∧
    s1.integerWrite .mulInt (.r 0) (v * d) none true = .ok u := ⟨_, _, _, _, rfl, rfl, by decide, rfl⟩
theorem witness_MultiplyIntegers_free : ∃ a b s1 u,
    both3Int (.reg (.r 0)) (.reg (.r 1)) (withRegs 0x800000 1 0) = .ok (a, b, s1) ∧
    ¬(-8388608 ≤ a.toInt ∧ a.toInt ≤ 8388607 ∧ -8388608 ≤ b.toInt ∧ b.toInt ≤ 8388607) ∧
    s1.tick.integerWrite .mulInt (.r 2) (Config.freeWord s1.draws) none (Config.freeBit s1.draws) = .ok u :=
  ⟨_, _, _, _, rfl, by decide, rfl⟩
theorem witness_BitwiseLogic : ∃ d v s1 u, srcClobbers (.imm 0xFFFF) .st = false ∧ readInt .st State.reset = .ok d ∧
    srcInt .unsigned (.imm 0x3F7F) State.reset = .ok (v, s1) ∧ s1.integerWrite .logic .st (d ||| v) none false = .ok u :=
  ⟨_, _, _, _, by decide, rfl, rfl, rfl⟩
theorem witness_ThreeOperandIntegers : ∃ a b s1 u, src3Clobbers (.ind (.bitrev 0)) (.ar 2) = false ∧
    src3Clobbers (.ind (.plain 1)) (.ar 2) = false ∧
    both3Int (.ind (.bitrev 0)) (.ind (.plain 1)) State.reset = .ok (a, b, s1) ∧
    s1.integerWrite .arithInt (.ar 2) (a + b) (some false) false = .ok u := ⟨_, _, _, _, by decide, by decide, rfl, rfl⟩
theorem witness_Shifts : 7 ≤ 32 ∧ 0 ≤ ((0x3F#32).setWidth 7).toInt ∧ 0 ≤ ((0#32).setWidth 7).toInt ∧
    ((0x7F#32).setWidth 7).toInt < 0 ∧ ((0x40#32).setWidth 7).toInt = -64 := by decide
theorem witness_Shifts_run : ∃ v c s1 u, readInt (.r 0) State.reset = .ok v ∧
    srcInt .signed (.imm 0x40) State.reset = .ok (c, s1) ∧
    s1.integerWrite .shift (.r 0) (shiftLogical 7 v c).value (shiftLogical 7 v c).c (shiftLogical 7 v c).v = .ok u ∧
    both3Int (.reg (.r 0)) (.reg (.r 1)) State.reset = .ok (0, 0, State.reset) := ⟨_, _, _, _, rfl, rfl, rfl, rfl⟩
theorem witness_Rotates : (∃ v u, readInt .st State.reset = .ok v ∧ State.reset.integerWrite .rot .st (v.rotateLeft 1) (some v.msb) false = .ok u) ∧
    (∃ v u, readInt .rc State.reset = .ok v ∧ State.reset.integerWrite .rot .rc (v.rotateLeft 1) (some v.msb) false = .ok u) :=
  ⟨⟨_, _, rfl, rfl⟩, ⟨_, _, rfl, rfl⟩⟩

/-! ### Floats -/

/-- 1.0, 2.0, 3.0, -1.0 and 2^31. -/
theorem value_examples : valF 0 = 1 ∧ valF 0x0100000000 = 2 ∧ valF 0x0140000000 = 3 ∧ valF 0xFF80000000 = -1 ∧
    valF 0x1F00000000 = 2147483648 ∧ valF 0x8000000000 = 0 := by
  refine ⟨?_, ?_, ?_, ?_, ?_, ?_⟩ <;> simp [valF, expField] <;> norm_num

theorem witness_FloatFormatsZeroAndNarrowing : valF 0 ≠ 0 ∧ valF 0xFF80000000 ≠ 0 := by
  rw [value_examples.1, value_examples.2.2.2.1]
  norm_num
theorem witness_FloatFormatsZeroAndNarrowing_narrow : (0x0340000000#40).extractLsb' 0 8 = 0#8 ∧
    valF (widen 0x00000000#32) ≤ valF 0x0100000000 := by
  refine ⟨by decide, ?_⟩
  have h : widen 0x00000000#32 = 0 := by decide
  rw [h, value_examples.1, value_examples.2.1]
  norm_num
theorem witness_FloatOperationsAreExact : valF 0 + valF 0x0100000000 = valF 0x0140000000 ∧
    valF 0x0100000000 - valF 0x0140000000 = valF 0xFF80000000 ∧
    (isSingle 0xFF80000000 = true ∧ valF 0xFF80000000 * valF 0xFF80000000 = valF 0) ∧ -valF 0 = valF 0xFF80000000 ∧
    |valF 0xFF80000000| = valF 0 := by
  obtain ⟨h1, h2, h3, h4, -, -⟩ := value_examples
  rw [h1, h2, h3, h4]
  refine ⟨by norm_num, by norm_num, ⟨by decide, by norm_num⟩, rfl, by norm_num⟩
theorem witness_ConversionsAndRounding : valF 0xFF80000000 = (-1 : ℤ) ∧ 2147483647 < valF 0x1F00000000 ∧
    ((1 : ℤ) : ℚ) < valF 0x0040000000 ∧ valF 0x0040000000 < ((1 : ℤ) : ℚ) + 1 := by
  refine ⟨by rw [value_examples.2.2.2.1]; norm_num, by rw [value_examples.2.2.2.2.1]; norm_num, ?_, ?_⟩
  · simp [valF, expField]
  · simp [valF, expField]
    norm_num
theorem witness_FloatResultsRiseWithTheExactResult : valF 0xFF80000000 + valF 0 < valF 0 + valF 0x0100000000 ∧
    valF 0xFF80000000 - valF 0 < valF 0 - valF 0xFF80000000 ∧ valF 0xFF80000000 * valF 0 < valF 0 * valF 0x0100000000 ∧
    -valF 0 < -valF 0xFF80000000 ∧ |valF 0| < |valF 0x0100000000| ∧
    (-2147483648 ≤ valF 0 ∧ valF 0 < valF 0x0100000000 ∧ valF 0x0100000000 ≤ 2147483647) ∧
    (∃ w : Word, valF 0x0100000000 ≤ valF (widen w)) ∧ (0#40 ≠ 0x7F80000000#40 ∧ 0xFF80000000#40 ≠ 0x7F80000000#40) := by
  obtain ⟨h1, h2, -, h4, -, -⟩ := value_examples
  have h : widen 0x01000000#32 = 0x0100000000 := by decide
  refine ⟨?_, ?_, ?_, ?_, ?_, ⟨?_, ?_, ?_⟩, ⟨0x01000000#32, by rw [h]⟩, by decide, by decide⟩ <;> (simp only [h1, h2, h4]; norm_num)
theorem witness_ConversionsAndRounding_rnd : isSingle 0x0340000000 = true ∧ isSingle 0x0000000001 = false ∧
    ∃ w : Word, valF 0x0000000001 ≤ valF (widen w) := by
  refine ⟨by decide, by decide, 0x01000000#32, ?_⟩
  have h : widen 0x01000000#32 = 0x0100000000 := by decide
  rw [h, value_examples.2.1]
  simp [valF, expField]
  norm_num
theorem witness_FloatArithmeticAndComparison : (∃ v s1, srcFlt (.mem (.ind (.bitrev 0))) State.reset = .ok (v, s1)) ∧
    (∃ r, both3Flt (.reg 0) (.ind (.bitrev 1)) State.reset = .ok r) := ⟨⟨_, _, rfl⟩, ⟨_, rfl⟩⟩
theorem witness_UnaryFloatsAndConversions : (∃ v s1, srcFlt (.imm 0x8000) State.reset = .ok (v, s1)) ∧
    (∃ v s1, srcInt .signed (.imm 0x8000) State.reset = .ok (v, s1)) ∧
    (∃ v s1 u, fsrcClobbers (.mem (.ind (.bitrev 0))) (.ar 1) = false ∧
      srcFlt (.mem (.ind (.bitrev 0))) State.reset = .ok (v, s1) ∧
      s1.integerWrite .fix (.ar 1) (ffix v).value none (ffix v).v = .ok u) :=
  ⟨⟨_, _, rfl⟩, ⟨_, _, rfl⟩, ⟨_, _, _, by decide, rfl, rfl⟩⟩

/-! ### Loads, stores, control -/

theorem witness_Loads : (∃ v s1, srcFlt (.imm 0x7FFF) State.reset = .ok (v, s1)) ∧
    (0x7FFF#16).extractLsb' 12 4 ≠ 8#4 ∧ (0x8FFF#16).extractLsb' 12 4 = 8#4 ∧ condTrue .u State.reset.st = true ∧
    condTrue .eq State.reset.st = false ∧ (∃ v s1 u, srcClobbers (.imm 1) .dp = false ∧
      srcInt .signed (.imm 1) State.reset = .ok (v, s1) ∧ s1.integerWrite .loadInt .dp v none false = .ok u ∧
      writeInt .dp v s1 = .ok u) :=
  ⟨⟨_, _, rfl⟩, by decide, by decide, by decide, by decide, ⟨_, _, _, by decide, rfl, rfl, rfl⟩⟩
theorem witness_StoresAndStack : (∃ a s1 v, ea (.ind (.bitrev 0)) internal = .ok (a, s1) ∧ internal.writable a ∧
      readInt .st internal = .ok v) ∧ (State.reset.setSp 0xFFFFFF).writable (low24 ((State.reset.setSp 0xFFFFFF).sp + 1)) ∧
    (∃ v s1 u, memRead (low24 State.reset.sp) State.reset = .ok (v, s1) ∧
      (s1.setSp (State.reset.sp - 1)).integerWrite .loadInt .sp v none false = .ok u) :=
  ⟨⟨_, _, _, rfl, ⟨by decide, by decide⟩, rfl⟩, ⟨by decide, by decide⟩, ⟨_, _, _, rfl, rfl⟩⟩
theorem witness_BranchesAndTheirTargets : State.reset.pend = none ∧ State.reset.rpts = .off ∧
    (∃ v, readInt (.ar 7) State.reset = .ok v) ∧
    (∃ t, target State.reset.params.branchBase.bcond (.reg (.ar 7)) State.reset = .ok t) ∧
    (∃ t, target State.reset.params.branchBase.bcondD (.disp 0x8000) State.reset = .ok t) :=
  ⟨rfl, rfl, ⟨_, rfl⟩, ⟨_, rfl⟩, ⟨_, rfl⟩⟩
theorem witness_DecrementAndBranch : State.reset.pend = none ∧ State.reset.rpts = .off ∧
    (∃ t, target State.reset.params.branchBase.dbcond (.disp 0x7FFF) State.reset = .ok t) ∧
    (∃ t, target State.reset.params.branchBase.dbcondD (.reg .sp) State.reset = .ok t) := ⟨rfl, rfl, ⟨_, rfl⟩, ⟨_, rfl⟩⟩
theorem witness_WhatFollowsAnInstruction_delayed : ∃ (s : State) (t : Addr), s.pend = some ⟨t, .three⟩ ∧ s.st.rm = false :=
  ⟨{ State.reset with pend := some ⟨8, .three⟩ }, 8, rfl, rfl⟩

/-- At the end of a repeated block of one instruction, with a count. -/
def atEnd (n : Word) : State := { State.reset with st := { Status.reset with rm := true }, rc := n }

theorem witness_WhatFollowsAnInstruction : (atEnd 1).pend = none ∧ (atEnd 1).st.rm = true ∧ (atEnd 1).pc = low24 (atEnd 1).re ∧
    low24 (atEnd 1).rs = (atEnd 1).pc ∧ (atEnd 1).rc ≠ 0 ∧ (atEnd 0).rc = 0 ∧ State.reset.st.rm = false := by decide
theorem witness_RepeatInstructions : State.reset.st.rm = false ∧ (0x7FFFFFFF#32).toNat < 2 ^ 31 ∧
    (State.reset.pc + 1).toNat ≤ (1#24).toNat ∧ (0x7FFF#16).toNat < 2 ^ 15 ∧
    srcInt .unsigned (.imm 0x7FFF) State.reset = .ok (0x7FFF, State.reset) := by decide
theorem witness_RepeatInstructions_outside : (atEnd 0).st.rm = true ∧
    ({ atEnd 0 with rs := 5, re := 6, pc := 4 } : State).pc.toNat < (low24 5).toNat ∧
    (low24 6).toNat < ({ atEnd 0 with rs := 5, re := 6, pc := 7 } : State).pc.toNat := by decide
theorem witness_RepeatInstructions_inside : (atEnd 0).pend = none ∧ (atEnd 0).rpts = .off ∧ (atEnd 0).st.rm = true ∧
    (low24 (atEnd 0).rs).toNat ≤ (atEnd 0).pc.toNat ∧ (atEnd 0).pc.toNat ≤ (low24 (atEnd 0).re).toNat := by decide
theorem witness_RepeatInstructions_refused : 2 ^ 31 ≤ ({ State.reset with rc := 0x80000000 } : State).rc.toNat ∧
    (0#24).toNat < (State.reset.pc + 1).toNat ∧ State.reset.rc.toNat < 2 ^ 31 ∧ 2 ^ 15 ≤ (0x8000#16).toNat ∧
    srcInt .unsigned (.imm 0x8000) State.reset = .ok (0x8000, State.reset) ∧
    (∃ v s1, srcInt .unsigned (.reg (.r 0)) (withRegs 0x80000000 0 0) = .ok (v, s1) ∧ 2 ^ 31 ≤ v.toNat) :=
  ⟨by decide, by decide, by decide, by decide, rfl, _, _, rfl, by decide⟩
theorem witness_CallsAndReturns : State.reset.pend = none ∧ State.reset.rpts = .off ∧
    State.reset.writable (low24 (State.reset.sp + 1)) ∧ (∃ t, target State.reset.params.branchBase.callcond (.disp 1)
      State.reset = .ok t) ∧ (∃ v s1, memRead (low24 State.reset.sp) State.reset = .ok (v, s1)) ∧
    condTrue .ne State.reset.st = true ∧ condTrue .eq State.reset.st = false :=
  ⟨rfl, rfl, ⟨by decide, by decide⟩, ⟨_, rfl⟩, ⟨_, _, rfl⟩, rfl, rfl⟩
theorem witness_TrapsAndTheirReturn : (∃ t s1, trapVector 31 State.reset = .ok (t, s1)) ∧ condTrue .u State.reset.st = true ∧
    condTrue .lo State.reset.st = false ∧ State.reset.writable (low24 (State.reset.sp + 1)) ∧
    (∃ v s1, memRead (low24 State.reset.sp) State.reset = .ok (v, s1)) ∧ State.reset.hasTrap 31 = true ∧
    State.reset.params = State.reset.params :=
  ⟨⟨_, _, rfl⟩, rfl, rfl, ⟨by decide, by decide⟩, ⟨_, _, rfl⟩, by decide, rfl⟩

/-- A machine with traps 0 to 4, of which a list gives the first two vectors. -/
def fewTraps : State :=
  { State.reset with params := { defaultParams with trapMax := 4, trapTable := .fixed [0x100, 0x200] } }

theorem witness_TrapsAndTheirReturn_number : fewTraps.pend = none ∧ fewTraps.rpts = .off ∧ fewTraps.params.trapMax < 5 ∧
    fewTraps.hasTrap 5 = false ∧ fewTraps.hasTrap 4 = false ∧ fewTraps.hasTrap 1 = true ∧ 1 ≤ fewTraps.params.trapMax ∧
    fewTraps.params.trapTable = .fixed [0x100, 0x200] ∧ [0x100#24, 0x200#24][1]? = some 0x200 ∧
    [0x100#24, 0x200#24][4]? = none ∧ condTrue .u fewTraps.st = true ∧ condTrue .eq fewTraps.st = false := by decide
theorem witness_TrapsAndTheirReturn_cells : ∃ w s1, State.reset.params.trapTable = .cells 0x20 ∧
    31 ≤ State.reset.params.trapMax ∧ memRead (0x20 + BitVec.ofNat 24 31) State.reset = .ok (w, s1) :=
  ⟨_, _, rfl, by decide, rfl⟩
theorem witness_TrapAndReturnRestore : (∃ t, exec (.trapcond .u 31) State.reset = .next t) ∧
    State.reset.kindAt (low24 (State.reset.sp + 1)) ≠ .peripheral := ⟨completes_next (by decide), by decide⟩
theorem witness_RefusedInDelaySlotsAndUnderRpts : controls .sigi = true ∧
    ({ State.reset with pend := some ⟨8, .one⟩ } : State).pend ≠ none ∧
    ({ State.reset with rpts := .looping } : State).rpts ≠ .off ∧
    (sampleInputs { atEnd 1 with pend := some ⟨8, .one⟩ }).waiting = none ∧
    (sampleInputs { atEnd 1 with pend := some ⟨8, .one⟩ }).pend ≠ none ∧
    (sampleInputs { atEnd 1 with pend := some ⟨8, .one⟩ }).atRepeatEnd = true := by decide
theorem witness_NopIackIdleAndLowPower : (∃ a s1, indirect (.bitrev 0) State.reset = .ok (a, s1)) ∧
    (∃ a s1 w s2, ea (.dir 1) State.reset = .ok (a, s1) ∧ memRead a s1 = .ok (w, s2)) ∧ (enabled State.reset).st.gie = true ∧
    State.reset.st.gie = false ∧ State.reset.rpts = .off ∧ State.reset.pend = none ∧
    State.reset.params.lc31LowPower = false ∧ (lc31 (enabled State.reset)).params.lc31LowPower = true ∧
    (lc31 (enabled State.reset)).st.gie = true :=
  ⟨⟨_, _, rfl⟩, ⟨_, _, _, _, rfl, rfl⟩, rfl, rfl, rfl, rfl, rfl, rfl, rfl⟩

/-- A branch to itself at 0. -/
def haltingBranch : State := holding State.reset 0 0x60000000

theorem witness_EndOfRun : haltingBranch.runOver = true ∧ haltingBranch.env = [] ∧ haltingBranch.takeable = none ∧
    haltingBranch.waiting = none ∧ haltingBranch.kindAt haltingBranch.pc ≠ .peripheral := by decide
theorem witness_EndOfRun_branch : ∃ w s1, haltingBranch.pend = none ∧ haltingBranch.rpts = .off ∧
    haltingBranch.pc.toNat ∉ haltingBranch.stored ∧ memRead haltingBranch.pc haltingBranch = .ok (w, s1) ∧
    decode w = .ok (.br haltingBranch.pc) := ⟨_, _, rfl, rfl, by decide, rfl, rfl⟩
theorem witness_EndOfRun_other : ∃ w s1, memRead 0 (holding State.reset 0 0x60000007) = .ok (w, s1) ∧
    decode w = .ok (.br 7) ∧ 7#24 ≠ (holding State.reset 0 0x60000007).pc := ⟨_, _, rfl, rfl, by decide⟩
theorem witness_EndOfRun_idle : ({ enabled State.reset with waiting := some .idle } : State).runOver = true ∧
    ({ interrupted with waiting := some .idle } : State).runOver = false ∧ interrupted.env = [] := by decide

/-! ### Interrupts and interlocked instructions -/

theorem witness_WhenInterruptsAreTaken : (sampleInputs interrupted).waiting = none ∧
    (sampleInputs interrupted).takeable = some (0, .fixed 0x40) ∧ (sampleInputs State.reset).takeable = none ∧
    (sampleInputs { interrupted with waiting := some .idle }).waiting = some .idle ∧
    (sampleInputs { interrupted with waiting := some .idle }).takeable = some (0, .fixed 0x40) := by decide
theorem witness_WhenInterruptsAreTaken_first : ∃ s : State, s.st.gie = true ∧ s.pend = none ∧ s.rpts = .off ∧
    s.sources[1]? = some ⟨.cell 5, true, true⟩ ∧ s.takeable = some (1, .cell 5) ∧
    ∀ j, j < 1 → ∀ x, s.sources[j]? = some x → ¬(x.enabled = true ∧ x.pending = true) :=
  ⟨{ interrupted with sources := [⟨.fixed 0x40, true, false⟩, ⟨.cell 5, true, true⟩] }, rfl, rfl, rfl, rfl, rfl, by
    intro j hj x hx
    obtain rfl : j = 0 := by omega
    cases hx
    decide⟩
theorem witness_InterruptEntry_input : ∃ (e : EnvInput) (l : List Source) (x : Source), l[0]? = some x ∧
    e.enables = [(0, false), (2, true)] ++ (0, true) :: [(2, false)] ∧ (∀ c, (0, c) ∉ [(2, false)]) ∧
    (∀ b, (1, b) ∉ e.enables) ∧ e.onSources l = [⟨.fixed 0x40, true, true⟩] :=
  ⟨⟨true, true, true, [(0, false), (2, true), (0, true), (2, false)], [0], [], []⟩, [⟨.fixed 0x40, false, false⟩], _, rfl,
    rfl, by decide, by decide, rfl⟩
theorem witness_InterruptEntry : (∃ a s1, vectorAddress (.cell 0x10) State.reset = .ok (a, s1)) ∧
    State.reset.writable (low24 (State.reset.sp + 1)) := ⟨⟨_, _, rfl⟩, by decide, by decide⟩

theorem witness_InterlockedOffTheBusArePlain : (∃ a s1, ea (.dir 0x9800) internal = .ok (a, s1) ∧ onBus a internal = false) ∧
    (∃ a s1, ea (.dir 0) State.reset = .ok (a, s1) ∧ onBus a State.reset = true) ∧
    (∃ t, exec (.ldfi (.dir 0x9800) 0) internal = .next t) ∧ (∃ t, exec (.ldfi (.dir 0) 0) State.reset = .next t) ∧
    (∃ t, exec .sigi State.reset = .next t) :=
  ⟨⟨_, _, rfl, by decide⟩, ⟨_, _, rfl, by decide⟩, completes_next (by decide), completes_next (by decide),
    completes_next (by decide)⟩
theorem witness_InterlockedLoadsAndStores : ∃ s : State, s.xf1 = false ∧ ∃ a s1 w s2 u, ea (.ind (.bitrev 0)) s = .ok (a, s1) ∧
    onBus a s = true ∧ ready a s = true ∧ memRead a { s1.driveXf0 false with lock := true } = .ok (w, s2) ∧
    memClobbers (.ind (.bitrev 0)) (.r 0) = false ∧ s2.integerWrite .loadInt (.r 0) w none false = .ok u ∧ s.inProgram a = false :=
  ⟨{ State.reset with xf1 := false }, rfl, _, _, _, _, _, rfl, by decide, by decide, rfl, by decide, rfl, by decide⟩
theorem witness_InterlockedLoadsAndStores_ready : State.reset.kindAt 0 = .externalStrb ∧
    State.reset.kindAt 0x800000 = .externalMstrb ∧ State.reset.kindAt 0x804000 = .externalIostrb ∧
    State.reset.kindAt 0x808000 = .peripheral := by decide
theorem witness_InterlockedLoadsAndStores_wait : State.reset.xf1 = true ∧
    ready 0 { State.reset with rdyInt := false } = false ∧ onBus 0 { State.reset with rdyInt := false } = true ∧
    namedReg (.r 1) = true := by decide
theorem witness_Sigi : State.reset.pend = none ∧ State.reset.rpts = .off ∧ State.reset.xf1 = true ∧
    State.reset.takeable = none ∧ interrupted.xf1 = true ∧ interrupted.takeable ≠ none ∧
    ({ State.reset with xf1 := false } : State).xf1 = false := by decide

/-- An interlocked instruction waits at address 0. -/
def waits (w : Waiting) (xf1 ready : Bool) (s : State) : State := { s with waiting := some w, xf1 := xf1, rdyInt := ready }

theorem witness_Sigi_waiting : (sampleInputs (waits .sigi false true State.reset)).waiting = some .sigi ∧
    (sampleInputs (waits .sigi false true State.reset)).xf1 = false ∧
    (sampleInputs (waits .sigi true true State.reset)).xf1 = true ∧
    (sampleInputs (waits .sigi true true State.reset)).takeable = none ∧
    (sampleInputs (waits .sigi true true interrupted)).takeable ≠ none := by decide

theorem witness_EndOfInterlockedWaits_ldfi : ∃ w s2,
    (sampleInputs (waits (.ldfi 0 1) false true State.reset)).waiting = some (.ldfi 0 1) ∧
    ready 0 (sampleInputs (waits (.ldfi 0 1) false true State.reset)) = true ∧
    (sampleInputs (waits (.ldfi 0 1) false true State.reset)).xf1 = false ∧
    memRead 0 { sampleInputs (waits (.ldfi 0 1) false true State.reset) with waiting := none, lock := true } = .ok (w, s2) :=
  ⟨_, _, rfl, by decide, rfl, rfl⟩
theorem witness_EndOfInterlockedWaits_ldii : ∃ w s2 u,
    (sampleInputs (waits (.ldii 0 (.r 1)) false true State.reset)).waiting = some (.ldii 0 (.r 1)) ∧
    ready 0 (sampleInputs (waits (.ldii 0 (.r 1)) false true State.reset)) = true ∧
    memRead 0 { sampleInputs (waits (.ldii 0 (.r 1)) false true State.reset) with waiting := none, lock := true } = .ok (w, s2) ∧
    s2.integerWrite .loadInt (.r 1) w none false = .ok u := ⟨_, _, _, rfl, by decide, rfl, rfl⟩
theorem witness_EndOfInterlockedWaits_waiting :
    ready 0 (sampleInputs (waits (.ldfi 0 1) true false State.reset)) = false ∧
    ready 0 (sampleInputs (waits (.ldii 0 (.r 1)) false false State.reset)) = false ∧
    ready 0 (sampleInputs (waits (.ldii 0 (.r 1)) true true State.reset)) = true ∧
    (sampleInputs (waits (.ldii 0 (.r 1)) true true State.reset)).xf1 = true ∧
    (sampleInputs (waits (.ldii 0 (.r 1)) true true State.reset)).loadExit = none := by decide
/-- A free bit is 0 or 1, and nothing says which: the two exits of a wait meet the other hypotheses together. -/
theorem witness_EndOfInterlockedWaits_exit : ∃ w s2 w' s2' u,
    (sampleInputs (waits (.ldfi 0 1) true true interrupted)).loadExit = some (0, .fixed 0x40) ∧
    ready 0 (sampleInputs (waits (.ldfi 0 1) true true interrupted)) = true ∧
    memRead 0 (State.tick { sampleInputs (waits (.ldfi 0 1) true true interrupted) with waiting := none }) = .ok (w, s2) ∧
    (sampleInputs (waits (.ldii 0 (.r 1)) true true interrupted)).loadExit = some (0, .fixed 0x40) ∧
    memRead 0 (State.tick { sampleInputs (waits (.ldii 0 (.r 1)) true true interrupted) with waiting := none }) = .ok (w', s2') ∧
    s2'.integerWrite .loadInt (.r 1) w' none false = .ok u := ⟨_, _, _, _, _, by decide, by decide, rfl, by decide, rfl, rfl⟩
/-- In the last pass of an RPTS, a load can be ended by an interrupt. -/
theorem witness_EndOfInterlockedWaits_lastPass : ({ interrupted with
    st := { Status.reset with rm := true, gie := true }, rpts := .looping } : State).loadExit = some (0, .fixed 0x40) := by decide
theorem witness_EndOfInterlockedWaits_store : ready 0 (sampleInputs (waits (.store 0 7) true false State.reset)) = false ∧
    ready 0 (sampleInputs (waits (.store 0 7) true true State.reset)) = true ∧
    (sampleInputs (waits (.store 0 7) true true State.reset)).writable 0 := ⟨by decide, by decide, by decide, by decide⟩

/-! ### Parallel instructions -/

/-- R1 and R4 hold 00800000h, which does not fit 24 bits as a signed integer. -/
def wide (s : State) : State := (s.setR 1 0x800000).setR 4 0x800000

theorem witness_IntegerOperationWithStore : ∃ a s1 b s2, clash (.bitrev 0) (.plain 1) = false ∧
    indirect (.plain 1) internal = .ok (a, s1) ∧ loadInd (.bitrev 0) s1 = .ok (b, s2) ∧ internal.writable a ∧
    internal.params.parallelSubOrder = .source ∧ -8388608 ≤ b.toInt ∧ b.toInt ≤ 8388607 :=
  ⟨_, _, _, _, by decide, rfl, rfl, ⟨by decide, by decide⟩, rfl, by decide, by decide⟩
theorem witness_IntegerOperationWithStore_vendor : ∃ s : State, s.params.parallelSubOrder = .vendor ∧ s.writable 0 :=
  ⟨{ State.reset with params := { defaultParams with parallelSubOrder := .vendor } }, rfl, by decide, by decide⟩
theorem witness_IntegerOperationWithStore_free : ∃ a s1 b s2, clash (.plain 0) (.plain 1) = false ∧
    indirect (.plain 1) (wide internal) = .ok (a, s1) ∧ loadInd (.plain 0) s1 = .ok (b, s2) ∧ (wide internal).writable a ∧
    8388607 < (((wide internal).rn 1).setWidth 32 : Word).toInt :=
  ⟨_, _, _, _, by decide, rfl, rfl, ⟨by decide, by decide⟩, by decide⟩
theorem witness_FloatOperationOrLoadWithStore : ∃ a s1 w s2, clash (.plain 0) (.plain 0) = false ∧
    indirect (.plain 0) internal = .ok (a, s1) ∧ loadInd (.plain 0) s1 = .ok (w, s2) ∧ internal.writable a :=
  ⟨_, _, _, _, by decide, rfl, rfl, by decide, by decide⟩
theorem witness_TwoLoadsTwoStores : ∃ a s1 b s2 v s3 w s4, clash (.bitrev 0) (.bitrev 1) = false ∧
    indirect (.bitrev 0) internal = .ok (a, s1) ∧ indirect (.bitrev 1) s1 = .ok (b, s2) ∧
    memRead a s2 = .ok (v, s3) ∧ memRead b (agentsAct s3) = .ok (w, s4) ∧ a ≠ b ∧ internal.writable a ∧ internal.writable b :=
  ⟨_, _, _, _, _, _, _, _, by decide, rfl, rfl, rfl, rfl, by decide, ⟨by decide, by decide⟩, ⟨by decide, by decide⟩⟩
theorem witness_TwoLoadsTwoStores_same : ∃ a s1 s2, clash (.plain 0) (.plain 0) = false ∧
    indirect (.plain 0) internal = .ok (a, s1) ∧ indirect (.plain 0) s1 = .ok (a, s2) := ⟨_, _, _, by decide, rfl, rfl⟩

/-- C × A with D + B (P = 01). -/
def pairOf : MulPair := ⟨.ind (.bitrev 0), .reg 4, true, .ind (.plain 1), .reg 5, true⟩

theorem witness_MultiplyWithAddOrSubtract : (∃ r, mulPairFlt pairOf internal = .ok r) ∧
    (∃ a b c d s1, mulPairInt pairOf internal = .ok (a, b, c, d, s1) ∧ -8388608 ≤ a.toInt ∧ a.toInt ≤ 8388607 ∧
      -8388608 ≤ b.toInt ∧ b.toInt ≤ 8388607) ∧
    (∃ p : MulPair, (pairIndirects p).length ≠ 2) :=
  ⟨⟨_, rfl⟩, ⟨_, _, _, _, _, rfl, by decide, by decide, by decide, by decide⟩,
    ⟨⟨.reg 0, .reg 1, false, .reg 2, .reg 3, false⟩, by decide⟩⟩
theorem witness_MultiplyWithAddOrSubtract_free : ∃ a b c d s1, mulPairInt pairOf (wide internal) = .ok (a, b, c, d, s1) ∧
    8388607 < max a.toInt (max b.toInt (max c.toInt d.toInt)) :=
  ⟨_, _, _, _, _, rfl, by decide⟩

end Sys2Proof.Machine.Slice0Tests
end

section
/-!
The condition codes (Tabla 3-13, R175). Beside U, a test has one of four shapes: one flag is set, one flag is clear, one
of two flags is set, two flags are clear.
-/
namespace Sys2Proof.Machine

/-- The shape of HS, NE, GE, NV, NUF, NLV and NLUF: `Bool.not_eq_true'` as an equivalence, to cite in a term. -/
theorem flagClear_iff (a : Bool) : (!a) = true ↔ a = false := Iff.of_eq (Bool.not_eq_true' a)

/-- The shape of HI and GT. -/
theorem bothFlagsClear_iff (a b : Bool) : (!a && !b) = true ↔ a = false ∧ b = false :=
  Bool.and_eq_true_iff.trans (and_congr (flagClear_iff a) (flagClear_iff b))

/-- Settles O22: each code unfolds to a test of one of the four shapes. -/
theorem conditionTable : Obligations.ConditionTable := by
  unfold Obligations.ConditionTable
  intro st
  exact ⟨
    -- U, LO, LS, HI, HS
    rfl, Iff.rfl, Bool.or_eq_true_iff, bothFlagsClear_iff st.c st.z, flagClear_iff st.c,
    -- EQ, NE
    Iff.rfl, flagClear_iff st.z,
    -- LT, LE, GT, GE
    Iff.rfl, Bool.or_eq_true_iff, bothFlagsClear_iff st.n st.z, flagClear_iff st.n,
    -- NV, V, NUF, UF
    flagClear_iff st.v, Iff.rfl, flagClear_iff st.uf, Iff.rfl,
    -- NLV, LV, NLUF, LUF, ZUF
    flagClear_iff st.lv, Iff.rfl, flagClear_iff st.luf, Iff.rfl, Bool.or_eq_true_iff⟩

end Sys2Proof.Machine
end

section
/-!
Direct addressing (R192).
-/
namespace Sys2Proof.Machine

/-- The two parts of a direct address do not overlap, so their concatenation is a sum. -/
theorem toNat_directAddress (k : BitVec 16) (s : State) :
    (directAddress k s).toNat = s.dp.toNat % 256 * 65536 + k.toNat :=
  calc (directAddress k s).toNat
      = (s.dp.extractLsb' 0 8).toNat <<< 16 ||| k.toNat := BitVec.toNat_append ..
    _ = (s.dp.extractLsb' 0 8).toNat <<< 16 + k.toNat := (Nat.shiftLeft_add_eq_or_of_lt k.isLt _).symm
    _ = s.dp.toNat % 256 * 65536 + k.toNat := by
      rw [BitVec.extractLsb'_toNat, Nat.shiftRight_zero, Nat.shiftLeft_eq]

/-- Settles O16: `ea` answers a direct operand with `directAddress` and the state it was given. -/
theorem directAddress_holds : Obligations.DirectAddress := by
  unfold Obligations.DirectAddress
  intro k s
  exact ⟨directAddress k s, rfl, toNat_directAddress k s⟩

end Sys2Proof.Machine
end

section
/-! Dyadic numbers `m · 2^k`: each operation of `Dy` is the operation on the rationals they are. -/
namespace Sys2Proof.Machine

theorem two_zpow_pos (n : ℤ) : (0 : ℚ) < 2 ^ n := zpow_pos two_pos n

/-- Scaling a mantissa up by a power of two lowers the exponent by as much. -/
theorem mul_two_pow_mul_zpow (m : ℚ) {j k : ℤ} (h : j ≤ k) : m * 2 ^ (k - j).toNat * 2 ^ j = m * 2 ^ k := by
  have hk : ((k - j).toNat : ℤ) + j = k := by omega
  rw [mul_assoc, ← zpow_natCast, ← zpow_add₀ two_ne_zero, hk]

namespace Dy

@[simp] theorem val_mk (m k : ℤ) : Dy.val ⟨m, k⟩ = m * 2 ^ k := rfl

@[simp] theorem val_add (a b : Dy) : (a.add b).val = a.val + b.val := by
  simp only [Dy.add, Dy.val, Int.cast_add, Int.cast_mul, Int.cast_pow, Int.cast_ofNat, add_mul]
  rw [mul_two_pow_mul_zpow _ (min_le_left ..), mul_two_pow_mul_zpow _ (min_le_right ..)]

@[simp] theorem val_neg (a : Dy) : a.neg.val = -a.val := by simp [Dy.neg, Dy.val]

@[simp] theorem val_abs (a : Dy) : a.abs.val = |a.val| := by
  rw [Dy.val, Dy.val, abs_mul, abs_of_pos (two_zpow_pos a.k)]
  simp [Dy.abs]

@[simp] theorem val_mul (a b : Dy) : (a.mul b).val = a.val * b.val := by
  simp only [Dy.mul, Dy.val, Int.cast_mul, zpow_add₀ (two_ne_zero (α := ℚ))]
  ring

theorem m_pos_iff (a : Dy) : 0 < a.m ↔ 0 < a.val := by
  rw [Dy.val, mul_pos_iff_of_pos_right (two_zpow_pos a.k), Int.cast_pos]

theorem m_eq_zero_iff (a : Dy) : a.m = 0 ↔ a.val = 0 := by
  rw [Dy.val, mul_eq_zero_iff_right (two_zpow_pos a.k).ne', Int.cast_eq_zero]

theorem lt_iff (a b : Dy) : Dy.lt a b = true ↔ a.val < b.val := by
  rw [Dy.lt, decide_eq_true_iff, m_pos_iff, val_add, val_neg, ← sub_eq_add_neg, sub_pos]

theorem eq_iff (a b : Dy) : Dy.eq a b = true ↔ a.val = b.val := by
  rw [Dy.eq, decide_eq_true_iff, m_eq_zero_iff, val_add, val_neg, ← sub_eq_add_neg, sub_eq_zero, eq_comm]

/-- `2 ^ k` for a negative `k` is a division by a positive integer. -/
theorem val_eq_div (d : Dy) (h : d.k < 0) : d.val = d.m / ((2 ^ (-d.k).toNat : ℕ) : ℚ) := by
  rw [Dy.val, div_eq_mul_inv, Nat.cast_pow, ← zpow_natCast, ← zpow_neg, Int.toNat_of_nonneg (by omega), neg_neg,
    Nat.cast_ofNat]

theorem val_eq_intCast (d : Dy) (h : 0 ≤ d.k) : d.val = (d.m * 2 ^ d.k.toNat : ℤ) := by
  rw [Dy.val, Int.cast_mul, Int.cast_pow, ← zpow_natCast, Int.toNat_of_nonneg h, Int.cast_ofNat]

theorem floor_fst (d : Dy) : d.floor.1 = ⌊d.val⌋ := by
  unfold Dy.floor
  split
  next h => rw [val_eq_intCast d h, Int.floor_intCast]
  next h =>
    rw [val_eq_div d (not_le.mp h), Rat.floor_intCast_div_natCast]
    simp

theorem floor_snd (d : Dy) : d.floor.2 = true ↔ (⌊d.val⌋ : ℚ) = d.val := by
  rw [← floor_fst]
  unfold Dy.floor
  split
  next h => simp [val_eq_intCast d h]
  next h =>
    have hpos : ((2 ^ (-d.k).toNat : ℕ) : ℚ) ≠ 0 := by positivity
    rw [val_eq_div d (not_le.mp h), eq_div_iff hpos, beq_iff_eq, ← Int.dvd_iff_emod_eq_zero]
    norm_cast
    exact ⟨Int.ediv_mul_cancel, Dvd.intro_left _⟩

end Dy

end Sys2Proof.Machine
end

section
/-!
The representable numbers of a format with `p` fraction bits (R144, R148, R150) as a set of rationals: zero, and
`q · 2^(e-p)` for a mantissa `q` with its implied bit and an exponent `e` from -127 to 127. The one fact that all
rounding proofs turn on is `le_of_mem_rep_of_lt`: no representable number lies strictly between two neighbouring
mantissas of one exponent.
-/
namespace Sys2Proof.Machine

theorem two_zpow_le {m n : ℤ} (h : m ≤ n) : (2 : ℚ) ^ m ≤ 2 ^ n := zpow_le_zpow_right₀ one_le_two h

/-- A mantissa in units of 2^-p: 1 to 2 or -2 to -1 (R148). -/
def Normal (p : ℕ) (q : ℤ) : Prop := 2 ^ p ≤ q ∧ q < 2 ^ (p + 1) ∨ -2 ^ (p + 1) ≤ q ∧ q < -2 ^ p

/-- The numbers with exponent e: 2^e to 2^(e+1) or -2^(e+1) to -2^e (R148). -/
def InBinade (e : ℤ) (v : ℚ) : Prop := 2 ^ e ≤ v ∧ v < 2 ^ (e + 1) ∨ -2 ^ (e + 1) ≤ v ∧ v < -2 ^ e

/-- A mantissa and an exponent of the format with p fraction bits. -/
structure IsFloat (p : ℕ) (q e : ℤ) : Prop where
  normal : Normal p q
  le_exp : -127 ≤ e
  exp_le : e ≤ 127

/-- The number with mantissa q and exponent e. -/
def floatVal (p : ℕ) (q e : ℤ) : ℚ := q * 2 ^ (e - p)

/-- The representable numbers of the format with p fraction bits. -/
def Rep (p : ℕ) : Set ℚ := {v | v = 0 ∨ ∃ q e, IsFloat p q e ∧ floatVal p q e = v}

theorem zero_mem_rep (p : ℕ) : 0 ∈ Rep p := .inl rfl

theorem IsFloat.mem_rep {p : ℕ} {q e : ℤ} (h : IsFloat p q e) : floatVal p q e ∈ Rep p := .inr ⟨q, e, h, rfl⟩

/-! ### Mantissas and binades -/

theorem floatVal_two_pow (p : ℕ) (e : ℤ) : floatVal p (2 ^ p) e = 2 ^ e := by
  rw [floatVal, Int.cast_pow, Int.cast_ofNat, ← zpow_natCast, ← zpow_add₀ two_ne_zero, add_sub_cancel]

theorem floatVal_two_pow_succ (p : ℕ) (e : ℤ) : floatVal p (2 ^ (p + 1)) e = 2 ^ (e + 1) := by
  rw [floatVal, Int.cast_pow, Int.cast_ofNat, ← zpow_natCast, ← zpow_add₀ two_ne_zero]
  congr 1
  push_cast
  ring

theorem floatVal_neg (p : ℕ) (q e : ℤ) : floatVal p (-q) e = -floatVal p q e := by simp [floatVal]

theorem floatVal_lt_iff {p : ℕ} {q q' e : ℤ} : floatVal p q e < floatVal p q' e ↔ q < q' := by
  rw [floatVal, floatVal, mul_lt_mul_iff_left₀ (two_zpow_pos _), Int.cast_lt]

theorem floatVal_le_iff {p : ℕ} {q q' e : ℤ} : floatVal p q e ≤ floatVal p q' e ↔ q ≤ q' := by
  rw [floatVal, floatVal, mul_le_mul_iff_left₀ (two_zpow_pos _), Int.cast_le]

/-- The bounds of a binade are mantissas. -/
theorem inBinade_iff (p : ℕ) {e : ℤ} {v : ℚ} : InBinade e v ↔
    floatVal p (2 ^ p) e ≤ v ∧ v < floatVal p (2 ^ (p + 1)) e ∨
      floatVal p (-2 ^ (p + 1)) e ≤ v ∧ v < floatVal p (-2 ^ p) e := by
  rw [floatVal_neg, floatVal_neg, floatVal_two_pow_succ, floatVal_two_pow, InBinade]

theorem normal_iff_inBinade {p : ℕ} {q e : ℤ} : Normal p q ↔ InBinade e (floatVal p q e) := by
  simp only [inBinade_iff p, floatVal_le_iff, floatVal_lt_iff, Normal]

theorem floatVal_eq_iff {p : ℕ} {q e : ℤ} {v : ℚ} : floatVal p q e = v ↔ (q : ℚ) = v * 2 ^ (p - e) := by
  rw [floatVal, ← neg_sub (p : ℤ), zpow_neg, ← div_eq_mul_inv, div_eq_iff (two_zpow_pos _).ne']

theorem floatVal_floor_le (p : ℕ) (e : ℤ) (v : ℚ) : floatVal p ⌊v * 2 ^ (p - e)⌋ e ≤ v := by
  rw [floatVal, ← neg_sub (p : ℤ), zpow_neg, ← div_eq_mul_inv, div_le_iff₀ (two_zpow_pos _)]
  exact Int.floor_le _

theorem lt_floatVal_floor_add_one (p : ℕ) (e : ℤ) (v : ℚ) : v < floatVal p (⌊v * 2 ^ (p - e)⌋ + 1) e := by
  rw [floatVal, ← neg_sub (p : ℤ), zpow_neg, ← div_eq_mul_inv, lt_div_iff₀ (two_zpow_pos _), Int.cast_add, Int.cast_one]
  exact Int.lt_floor_add_one _

theorem InBinade.normal_floor {e : ℤ} {v : ℚ} (h : InBinade e v) (p : ℕ) : Normal p ⌊v * 2 ^ (p - e)⌋ := by
  have hle := floatVal_floor_le p e v
  have hlt := lt_floatVal_floor_add_one p e v
  rw [inBinade_iff p] at h
  refine h.imp (fun ⟨h1, h2⟩ => ⟨?_, ?_⟩) (fun ⟨h1, h2⟩ => ⟨?_, ?_⟩)
  · exact Int.lt_add_one_iff.mp (floatVal_lt_iff.mp (h1.trans_lt hlt))
  · exact floatVal_lt_iff.mp (hle.trans_lt h2)
  · exact Int.lt_add_one_iff.mp (floatVal_lt_iff.mp (h1.trans_lt hlt))
  · exact floatVal_lt_iff.mp (hle.trans_lt h2)

theorem InBinade.of_pos {e : ℤ} {v : ℚ} (h : InBinade e v) (h0 : 0 < v) : 2 ^ e ≤ v ∧ v < 2 ^ (e + 1) :=
  h.resolve_right fun hneg => (hneg.2.trans (neg_lt_zero.mpr (two_zpow_pos e))).not_gt h0

theorem InBinade.of_neg {e : ℤ} {v : ℚ} (h : InBinade e v) (h0 : v < 0) : -2 ^ (e + 1) ≤ v ∧ v < -2 ^ e :=
  h.resolve_left fun hpos => ((two_zpow_pos e).trans_le hpos.1).not_gt h0

theorem Normal.ne_zero {p : ℕ} {q : ℤ} (h : Normal p q) : q ≠ 0 := by
  have : (0 : ℤ) < 2 ^ p := by positivity
  obtain ⟨h, -⟩ | ⟨-, h⟩ := h <;> omega

theorem normal_two_pow (p : ℕ) : Normal p (2 ^ p) := .inl ⟨le_rfl, pow_lt_pow_right₀ one_lt_two p.lt_succ_self⟩

theorem normal_neg_two_pow_succ (p : ℕ) : Normal p (-2 ^ (p + 1)) :=
  .inr ⟨le_rfl, neg_lt_neg (pow_lt_pow_right₀ one_lt_two p.lt_succ_self)⟩

theorem normal_two_pow_succ_sub_one (p : ℕ) : Normal p (2 ^ (p + 1) - 1) := by
  have : (0 : ℤ) < 2 ^ p := by positivity
  left
  rw [pow_succ]
  omega

theorem normal_neg_two_pow_sub_one (p : ℕ) : Normal p (-2 ^ p - 1) := by
  have : (0 : ℤ) < 2 ^ p := by positivity
  right
  rw [pow_succ]
  omega

/-- The next mantissa is normal unless it leaves the binade. -/
theorem Normal.succ {p : ℕ} {q : ℤ} (h : Normal p q) (h1 : q + 1 ≠ 2 ^ (p + 1)) (h2 : q + 1 ≠ -2 ^ p) :
    Normal p (q + 1) := by
  unfold Normal at *
  omega

/-! ### Where representable numbers can lie -/

/-- Beside a binade, a representable number is closer to zero, a mantissa of the binade, or farther from zero. -/
theorem mem_rep_cases {p : ℕ} {y : ℚ} (hy : y ∈ Rep p) (e : ℤ) :
    -2 ^ e ≤ y ∧ y < 2 ^ e ∨ (∃ q, y = floatVal p q e) ∨ 2 ^ (e + 1) ≤ y ∨ y < -2 ^ (e + 1) := by
  obtain rfl | ⟨q, e', h, rfl⟩ := hy
  · exact .inl ⟨neg_nonpos.mpr (two_zpow_pos e).le, two_zpow_pos e⟩
  have hb := normal_iff_inBinade (e := e').mp h.normal
  have hpos := two_zpow_pos e'
  obtain hlt | rfl | hgt := lt_trichotomy e' e
  · have hle := two_zpow_le (Int.add_one_le_of_lt hlt)
    left
    obtain ⟨h1, h2⟩ | ⟨h1, h2⟩ := hb <;> constructor <;> linarith
  · exact .inr (.inl ⟨q, rfl⟩)
  · have hle := two_zpow_le (Int.add_one_le_of_lt hgt)
    right; right
    obtain ⟨h1, -⟩ | ⟨-, h2⟩ := hb
    · exact .inl (hle.trans h1)
    · exact .inr (h2.trans_le (neg_le_neg hle))

/-- No representable number lies strictly between neighbouring mantissas of one exponent. -/
theorem le_of_mem_rep_of_lt {p : ℕ} {q e : ℤ} {y : ℚ} (hq : Normal p q) (hy : y ∈ Rep p) (h : floatVal p q e < y) :
    floatVal p (q + 1) e ≤ y := by
  obtain ⟨hl, hr⟩ | ⟨q', rfl⟩ | hfar | hfar := mem_rep_cases hy e
  · -- then q is negative, and q + 1 is at most -2^p
    rw [← floatVal_two_pow p, ← floatVal_neg] at hl
    rw [← floatVal_two_pow p] at hr
    have hlt := floatVal_lt_iff.mp (h.trans hr)
    refine le_trans (floatVal_le_iff.mpr ?_) hl
    unfold Normal at hq
    omega
  · exact floatVal_le_iff.mpr (Int.add_one_le_of_lt (floatVal_lt_iff.mp h))
  · rw [← floatVal_two_pow_succ p] at hfar
    refine le_trans (floatVal_le_iff.mpr ?_) hfar
    unfold Normal at hq
    omega
  · -- q is not below -2^(p+1)
    rw [← floatVal_two_pow_succ p, ← floatVal_neg] at hfar
    have hlt := floatVal_lt_iff.mp (h.trans hfar)
    unfold Normal at hq
    omega

theorem lt_of_mem_rep {p : ℕ} {y : ℚ} (hy : y ∈ Rep p) : y < 2 ^ (128 : ℤ) := by
  obtain rfl | ⟨q, e, h, rfl⟩ := hy
  · exact two_zpow_pos _
  have hle := two_zpow_le (show e + 1 ≤ 128 by have := h.exp_le; omega)
  have hpos := two_zpow_pos e
  obtain ⟨-, h2⟩ | ⟨-, h2⟩ := normal_iff_inBinade (e := e).mp h.normal
  · exact h2.trans_le hle
  · linarith [two_zpow_pos 128]

theorem le_of_mem_rep {p : ℕ} {y : ℚ} (hy : y ∈ Rep p) : -2 ^ (128 : ℤ) ≤ y := by
  obtain rfl | ⟨q, e, h, rfl⟩ := hy
  · exact neg_nonpos.mpr (two_zpow_pos _).le
  have hle := two_zpow_le (show e + 1 ≤ 128 by have := h.exp_le; omega)
  have hpos := two_zpow_pos e
  obtain ⟨h1, -⟩ | ⟨h1, -⟩ := normal_iff_inBinade (e := e).mp h.normal
  · linarith [two_zpow_pos 128]
  · exact (neg_le_neg hle).trans h1

theorem le_of_mem_rep_of_pos {p : ℕ} {y : ℚ} (hy : y ∈ Rep p) (h0 : 0 < y) : 2 ^ (-127 : ℤ) ≤ y := by
  obtain rfl | ⟨q, e, h, rfl⟩ := hy
  · exact absurd h0 (lt_irrefl 0)
  obtain ⟨h1, -⟩ | ⟨-, h2⟩ := normal_iff_inBinade (e := e).mp h.normal
  · exact (two_zpow_le h.le_exp).trans h1
  · linarith [two_zpow_pos e]

theorem lt_of_mem_rep_of_neg {p : ℕ} {y : ℚ} (hy : y ∈ Rep p) (h0 : y < 0) : y < -2 ^ (-127 : ℤ) := by
  obtain rfl | ⟨q, e, h, rfl⟩ := hy
  · exact absurd h0 (lt_irrefl 0)
  obtain ⟨h1, -⟩ | ⟨-, h2⟩ := normal_iff_inBinade (e := e).mp h.normal
  · linarith [two_zpow_pos e]
  · exact h2.trans_le (neg_le_neg (two_zpow_le h.le_exp))

/-- Every representable number is a multiple of the smallest mantissa unit. -/
theorem exists_eq_mul_of_mem_rep {p : ℕ} {y : ℚ} (hy : y ∈ Rep p) : ∃ n : ℤ, y = n * 2 ^ (-127 - p : ℤ) := by
  obtain rfl | ⟨q, e, h, rfl⟩ := hy
  · exact ⟨0, by simp⟩
  have hle : -127 - (p : ℤ) ≤ e - p := by have := h.le_exp; omega
  exact ⟨q * 2 ^ (e - p - (-127 - p)).toNat, by
    rw [floatVal, Int.cast_mul, Int.cast_pow, Int.cast_ofNat, mul_two_pow_mul_zpow _ hle]⟩

theorem InBinade.exp_le {e e' : ℤ} {v : ℚ} (h : InBinade e v) (h' : InBinade e' v) : e ≤ e' := by
  by_contra hlt
  have hle := two_zpow_le (Int.add_one_le_of_lt (not_le.mp hlt))
  have hpos := two_zpow_pos e
  have hpos' := two_zpow_pos e'
  obtain ⟨h1, -⟩ | ⟨-, h1⟩ := h <;> obtain ⟨h2, h3⟩ | ⟨h2, h3⟩ := h' <;> linarith

/-- Two numbers with one value have one mantissa and one exponent. -/
theorem IsFloat.eq_of_floatVal_eq {p : ℕ} {q e q' e' : ℤ} (h : IsFloat p q e) (h' : IsFloat p q' e')
    (heq : floatVal p q e = floatVal p q' e') : q = q' ∧ e = e' := by
  have hb := normal_iff_inBinade (e := e).mp h.normal
  have hb' := normal_iff_inBinade (e := e').mp h'.normal
  rw [← heq] at hb'
  obtain rfl : e = e' := le_antisymm (hb.exp_le hb') (hb'.exp_le hb)
  exact ⟨le_antisymm (floatVal_le_iff.mp heq.le) (floatVal_le_iff.mp heq.ge), rfl⟩

end Sys2Proof.Machine
end

section
/-!
The patterns of representable numbers: the value of a pattern is its dyadic number (R148), a packed mantissa and exponent
has the value of both, and the single-format values are the representable numbers with 23 fraction bits.
-/
namespace Sys2Proof.Machine

/-! ### The fields of a pattern -/

theorem toInt_mantField (x : Ext) :
    (mantField x).toInt = ((x.extractLsb' 0 31).toNat : ℤ) - if (mantField x).msb then 2 ^ 31 else 0 := by
  have hmsb := BitVec.msb_eq_decide (mantField x)
  have hmod : (x.extractLsb' 0 31).toNat = (mantField x).toNat % 2 ^ 31 := by
    simp [mantField, BitVec.extractLsb'_toNat]
  have hlt := (mantField x).isLt
  rw [BitVec.toInt_eq_msb_cond, hmod, hmsb]
  simp only [decide_eq_true_eq]
  split <;> omega

theorem msb_mantField (x : Ext) : (mantField x).msb = x.getLsbD 31 := by
  simp [mantField, BitVec.msb_eq_getLsbD_last]

theorem mantInt_eq (x : Ext) :
    mantInt x = if (mantField x).msb then ((x.extractLsb' 0 31).toNat : ℤ) - 2 ^ 32
      else ((x.extractLsb' 0 31).toNat : ℤ) + 2 ^ 31 := by
  rw [mantInt, toInt_mantField]
  split <;> omega

theorem normal_mantInt (x : Ext) : Normal 31 (mantInt x) := by
  have hlt := (x.extractLsb' 0 31).isLt
  rw [mantInt_eq]
  unfold Normal
  split <;> omega

theorem isZeroF_iff (x : Ext) : isZeroF x = true ↔ (expField x).toInt = -128 := by
  rw [isZeroF, beq_iff_eq, ← BitVec.toInt_inj]
  rfl

theorem exp_bounds_of_not_zero {x : Ext} (h : isZeroF x = false) :
    -127 ≤ (expField x).toInt ∧ (expField x).toInt ≤ 127 := by
  have hne : (expField x).toInt ≠ -128 := fun he => by simp [(isZeroF_iff x).mpr he] at h
  have hlo := (expField x).le_toInt
  have hhi := (expField x).toInt_lt
  omega

theorem isFloat_of_not_zero {x : Ext} (h : isZeroF x = false) : IsFloat 31 (mantInt x) (expField x).toInt :=
  ⟨normal_mantInt x, (exp_bounds_of_not_zero h).1, (exp_bounds_of_not_zero h).2⟩

/-! ### The value of a pattern -/

theorem valF_of_zero {x : Ext} (h : isZeroF x = true) : valF x = 0 := if_pos ((isZeroF_iff x).mp h)

theorem valF_of_not_zero {x : Ext} (h : isZeroF x = false) : valF x = floatVal 31 (mantInt x) (expField x).toInt := by
  have hne : (expField x).toInt ≠ -128 := fun he => by simp [(isZeroF_iff x).mpr he] at h
  rw [floatVal, zpow_sub₀ two_ne_zero, mantInt_eq, msb_mantField]
  simp only [valF, if_neg hne]
  split <;> push_cast <;> field_simp <;> ring

theorem val_dyOf (x : Ext) : (dyOf x).val = valF x := by
  unfold dyOf
  cases h : isZeroF x with
  | true => simp [valF_of_zero h]
  | false => simp [valF_of_not_zero h, floatVal]

theorem valF_mem_rep (x : Ext) : valF x ∈ Rep 31 := by
  cases h : isZeroF x with
  | true => exact valF_of_zero h ▸ zero_mem_rep 31
  | false => exact valF_of_not_zero h ▸ (isFloat_of_not_zero h).mem_rep

/-! ### Packing -/

theorem mantInt_of_mantField {x : Ext} {f : ℤ} (h : mantField x = BitVec.ofInt 32 f) (hlo : -2 ^ 31 ≤ f)
    (hhi : f < 2 ^ 31) :
    mantInt x = if f < 0 then f - 2 ^ 31 else f + 2 ^ 31 := by
  have hf : (BitVec.ofInt 32 f).toInt = f := by
    rw [BitVec.toInt_ofInt, Int.bmod_eq_of_le (by omega) (by omega)]
  rw [mantInt, h, BitVec.msb_eq_toInt, hf]
  simp only [decide_eq_true_eq]

/-- The fraction field of a packed mantissa is a 32-bit integer with the sign of the mantissa. -/
theorem mantInt_packFloat {p : ℕ} {q : ℤ} (hp : p ≤ 31) (hq : Normal p q) (e : ℤ) :
    mantInt (packFloat p q e) = q * 2 ^ (31 - p) := by
  have hpow : (2 : ℤ) ^ p * 2 ^ (31 - p) = 2 ^ 31 := by rw [← pow_add, Nat.add_sub_cancel' hp]
  have hpos : (0 : ℤ) < 2 ^ (31 - p) := by positivity
  have hpos' : (0 : ℤ) < 2 ^ p := by positivity
  have hfield : mantField (packFloat p q e) = BitVec.ofInt 32 ((if q < 0 then q + 2 ^ p else q - 2 ^ p) * 2 ^ (31 - p)) :=
    BitVec.extractLsb'_append_eq_right
  rw [Normal, pow_succ] at hq
  obtain ⟨h1, h2⟩ | ⟨h1, h2⟩ := hq
  · rw [if_neg (by omega), sub_mul, hpow] at hfield
    have hlo := mul_le_mul_of_nonneg_right h1 hpos.le
    have hhi := mul_lt_mul_of_pos_right h2 hpos
    rw [mantInt_of_mantField hfield (by omega) (by linarith), if_neg (by omega), sub_add_cancel]
  · rw [if_pos (by omega), add_mul, hpow] at hfield
    have hlo := mul_le_mul_of_nonneg_right h1 hpos.le
    have hhi := mul_lt_mul_of_pos_right h2 hpos
    rw [mantInt_of_mantField hfield (by linarith) (by linarith), if_pos (by linarith), add_sub_cancel_right]

theorem expField_packFloat {p : ℕ} {q e : ℤ} (h : IsFloat p q e) : (expField (packFloat p q e)).toInt = e := by
  have hfield : expField (packFloat p q e) = BitVec.ofInt 8 e := BitVec.extractLsb'_append_eq_left
  have hlo := h.le_exp
  have hhi := h.exp_le
  rw [hfield, BitVec.toInt_ofInt, Int.bmod_eq_of_le (by omega) (by omega)]

theorem isZeroF_packFloat {p : ℕ} {q e : ℤ} (h : IsFloat p q e) : isZeroF (packFloat p q e) = false := by
  rw [← Bool.not_eq_true, isZeroF_iff, expField_packFloat h]
  have := h.le_exp
  omega

theorem valF_packFloat {p : ℕ} {q e : ℤ} (hp : p ≤ 31) (h : IsFloat p q e) :
    valF (packFloat p q e) = floatVal p q e := by
  have hexp : ((31 - p : ℕ) : ℤ) + (e - (31 : ℕ)) = e - p := by omega
  rw [valF_of_not_zero (isZeroF_packFloat h), mantInt_packFloat hp h.normal, expField_packFloat h, floatVal, floatVal,
    Int.cast_mul, Int.cast_pow, Int.cast_ofNat, ← zpow_natCast, mul_assoc, ← zpow_add₀ two_ne_zero, hexp]

/-! ### Single-format patterns -/

theorem floatVal_single (q e : ℤ) : floatVal 31 (256 * q) e = floatVal 23 q e := by
  have hexp : e - ((23 : ℕ) : ℤ) = e - (31 : ℕ) + 8 := by push_cast; ring
  rw [floatVal, floatVal, hexp, zpow_add₀ two_ne_zero]
  push_cast
  ring

theorem normal_single (q : ℤ) : Normal 31 (256 * q) ↔ Normal 23 q := by
  unfold Normal
  omega

theorem IsFloat.single {q e : ℤ} (h : IsFloat 23 q e) : IsFloat 31 (256 * q) e :=
  ⟨(normal_single q).mpr h.normal, h.le_exp, h.exp_le⟩

theorem packFloat_single (q e : ℤ) : packFloat 31 (256 * q) e = packFloat 23 q e := by
  have hneg : 256 * q < 0 ↔ q < 0 := by omega
  simp only [packFloat, hneg]
  congr 2
  split <;> ring

theorem low8_eq_zero_iff (x : Ext) : x.extractLsb' 0 8 = 0#8 ↔ 256 ∣ mantInt x := by
  have hmod : (x.extractLsb' 0 8).toNat = (x.extractLsb' 0 31).toNat % 256 := by
    simp [BitVec.extractLsb'_toNat]
  rw [← BitVec.toNat_inj, hmod, mantInt_eq, BitVec.toNat_ofNat]
  split <;> omega

theorem low8_packFloat {q e : ℤ} (h : IsFloat 23 q e) : (packFloat 23 q e).extractLsb' 0 8 = 0#8 := by
  rw [low8_eq_zero_iff, mantInt_packFloat (by decide) h.normal]
  exact Dvd.intro_left _ rfl

theorem valF_mem_rep_of_isSingle {x : Ext} (h : isSingle x = true) : valF x ∈ Rep 23 := by
  cases hz : isZeroF x with
  | true => exact valF_of_zero hz ▸ zero_mem_rep 23
  | false =>
    rw [isSingle, hz, Bool.false_or, beq_iff_eq, low8_eq_zero_iff] at h
    obtain ⟨q, hq⟩ := h
    have hf := isFloat_of_not_zero hz
    rw [hq] at hf
    rw [valF_of_not_zero hz, hq, floatVal_single]
    exact IsFloat.mem_rep ⟨(normal_single q).mp hf.normal, hf.le_exp, hf.exp_le⟩

theorem isSingle_widen (w : Word) : isSingle (widen w) = true := by
  have h : (widen w).extractLsb' 0 8 = 0#8 := BitVec.extractLsb'_append_eq_right
  rw [isSingle, h]
  simp

theorem valF_widen_mem_rep (w : Word) : valF (widen w) ∈ Rep 23 := valF_mem_rep_of_isSingle (isSingle_widen w)

/-! ### Points -/

/-- The number a point is, as a rational. -/
def Point.val (pt : Point) : ℚ := pt.exact.val

theorem Point.val_exact (pt : Point) : pt.exact.val = pt.val := rfl

@[simp] theorem Point.val_zero : Point.zero.val = 0 := by simp [Point.val, Point.exact]

@[simp] theorem Point.val_pat (x : Ext) : (Point.pat x).val = valF x := val_dyOf x

/-- A point of the format with p fraction bits: zero, or a pattern packed from a mantissa and an exponent. -/
inductive IsPoint (p : ℕ) : Point → Prop where
  | zero : IsPoint p .zero
  | pat {q e : ℤ} (h : IsFloat p q e) : IsPoint p (.pat (packFloat p q e))

theorem IsPoint.val_mem_rep {p : ℕ} (hp : p ≤ 31) {pt : Point} (h : IsPoint p pt) : pt.val ∈ Rep p := by
  cases h with
  | zero => exact Point.val_zero ▸ zero_mem_rep p
  | pat h => exact (Point.val_pat _).trans (valF_packFloat hp h) ▸ h.mem_rep

theorem floatVal_ne_zero {p : ℕ} {q : ℤ} (h : Normal p q) (e : ℤ) : floatVal p q e ≠ 0 :=
  mul_ne_zero (Int.cast_ne_zero.mpr h.ne_zero) (two_zpow_pos _).ne'

/-- Among points of one format, a number has one point (R149 gives zero many patterns, but one point). -/
theorem IsPoint.eq_of_val_eq {p : ℕ} (hp : p ≤ 31) {a b : Point} (ha : IsPoint p a) (hb : IsPoint p b)
    (h : a.val = b.val) : a = b := by
  cases ha with
  | zero =>
    cases hb with
    | zero => rfl
    | pat hb =>
      rw [Point.val_zero, Point.val_pat, valF_packFloat hp hb] at h
      exact absurd h.symm (floatVal_ne_zero hb.normal _)
  | pat ha =>
    rw [Point.val_pat, valF_packFloat hp ha] at h
    cases hb with
    | zero => exact absurd (h.trans Point.val_zero) (floatVal_ne_zero ha.normal _)
    | pat hb =>
      rw [Point.val_pat, valF_packFloat hp hb] at h
      obtain ⟨rfl, rfl⟩ := ha.eq_of_floatVal_eq hb h
      rfl

theorem IsPoint.single {pt : Point} (h : IsPoint 23 pt) : IsPoint 31 pt := by
  cases h with
  | zero => exact .zero
  | pat h => exact packFloat_single _ _ ▸ .pat h.single

theorem isZeroF_realise_zero (op : FloatOp) (a b : Ext) : isZeroF (realise op a b .zero) = true := by
  have h (y : BitVec 32) : expField (0x80#8 ++ y) = 0x80#8 := BitVec.extractLsb'_append_eq_left
  rw [isZeroF, beq_iff_eq]
  cases op with
  | rnd => exact (congrArg expField (BitVec.append_assoc ..)).trans (h _)
  | add | sub | mul | neg | abs | norm => exact h _

/-- The free mantissa of a zero result does not change its value (R149). -/
@[simp] theorem valF_realise (op : FloatOp) (a b : Ext) (pt : Point) : valF (realise op a b pt) = pt.val := by
  cases pt with
  | zero => rw [valF_of_zero (isZeroF_realise_zero op a b), Point.val_zero]
  | pat x => rw [realise, Point.val_pat]

end Sys2Proof.Machine
end

section
/-!
The representable numbers around a number: `nextPoint` is the successor in a format, and the two sides of `bracket` are the
greatest representable number not above a number and the least not below it.
-/
namespace Sys2Proof.Machine

/-- The point of the greatest or of the least number of a set, or none for the empty set. -/
def IsPointOf (p : ℕ) (Best : Set ℚ → ℚ → Prop) (S : Set ℚ) : Option Point → Prop
  | some pt => IsPoint p pt ∧ Best S pt.val
  | none => ∀ y, y ∉ S

theorem IsPointOf.unique {p : ℕ} (hp : p ≤ 31) {Best : Set ℚ → ℚ → Prop} {S : Set ℚ} {o o' : Option Point}
    (hmem : ∀ v, Best S v → v ∈ S) (huniq : ∀ v w, Best S v → Best S w → v = w) (h : IsPointOf p Best S o)
    (h' : IsPointOf p Best S o') : o = o' := by
  match o, o', h, h' with
  | none, none, _, _ => rfl
  | some a, some b, h, h' => rw [h.1.eq_of_val_eq hp h'.1 (huniq _ _ h.2 h'.2)]
  | none, some b, h, h' => exact absurd (hmem _ h'.2) (h _)
  | some a, none, h, h' => exact absurd (hmem _ h.2) (h' _)

theorem isPointOf_pat {p : ℕ} (hp : p ≤ 31) {q e : ℤ} {Best : Set ℚ → ℚ → Prop} {S : Set ℚ} (h : IsFloat p q e)
    (hS : Best S (floatVal p q e)) : IsPointOf p Best S (some (.pat (packFloat p q e))) :=
  ⟨.pat h, by rwa [Point.val_pat, valF_packFloat hp h]⟩

theorem isPointOf_zero {p : ℕ} {Best : Set ℚ → ℚ → Prop} {S : Set ℚ} (hS : Best S 0) :
    IsPointOf p Best S (some .zero) :=
  ⟨.zero, by rwa [Point.val_zero]⟩

/-- The representable numbers not above v. -/
def repUpTo (p : ℕ) (v : ℚ) : Set ℚ := {y | y ∈ Rep p ∧ y ≤ v}

/-- The representable numbers not below v. -/
def repFrom (p : ℕ) (v : ℚ) : Set ℚ := {y | y ∈ Rep p ∧ v ≤ y}

/-- The representable numbers above v. -/
def repAbove (p : ℕ) (v : ℚ) : Set ℚ := {y | y ∈ Rep p ∧ v < y}

/-! ### The successor -/

theorem isLeast_repAbove {p : ℕ} {q e : ℤ} (h : IsFloat p q e) (hsucc : floatVal p (q + 1) e ∈ Rep p) :
    IsLeast (repAbove p (floatVal p q e)) (floatVal p (q + 1) e) :=
  ⟨⟨hsucc, floatVal_lt_iff.mpr (lt_add_one q)⟩, fun _ hy => le_of_mem_rep_of_lt h.normal hy.1 hy.2⟩

theorem nextPoint_isLeast {p : ℕ} (hp : p ≤ 31) {q e : ℤ} (h : IsFloat p q e) :
    IsPointOf p IsLeast (repAbove p (floatVal p q e)) (nextPoint p q e) := by
  unfold nextPoint
  split
  next hcarry =>
    have hval : floatVal p (q + 1) e = floatVal p (2 ^ p) (e + 1) := by
      rw [hcarry, floatVal_two_pow_succ, floatVal_two_pow]
    split
    next he => -- the greatest number has no successor
      refine fun y hy => (lt_of_mem_rep hy.1).not_ge ?_
      have hle := le_of_mem_rep_of_lt h.normal hy.1 hy.2
      rwa [hval, floatVal_two_pow, he] at hle
    next he =>
      have hnext : IsFloat p (2 ^ p) (e + 1) := ⟨normal_two_pow p, by have := h.le_exp; omega, by have := h.exp_le; omega⟩
      exact isPointOf_pat hp hnext (hval ▸ isLeast_repAbove h (hval ▸ hnext.mem_rep))
  next hcarry =>
    split
    next hborrow =>
      have hval : floatVal p (q + 1) e = -2 ^ e := by rw [hborrow, floatVal_neg, floatVal_two_pow]
      split
      next he => -- after -2^-127 comes zero
        have hlt : floatVal p q e < 0 :=
          (floatVal_lt_iff.mpr (lt_add_one q)).trans_eq hval |>.trans (neg_lt_zero.mpr (two_zpow_pos e))
        refine isPointOf_zero ⟨⟨zero_mem_rep p, hlt⟩, fun y hy => le_of_not_gt fun hneg => ?_⟩
        have hle := le_of_mem_rep_of_lt h.normal hy.1 hy.2
        rw [hval, he] at hle
        exact (lt_of_mem_rep_of_neg hy.1 hneg).not_ge hle
      next he =>
        have hnext : IsFloat p (-2 ^ (p + 1)) (e - 1) :=
          ⟨normal_neg_two_pow_succ p, by have := h.le_exp; omega, by have := h.exp_le; omega⟩
        have hval' : floatVal p (q + 1) e = floatVal p (-2 ^ (p + 1)) (e - 1) := by
          rw [hval, floatVal_neg, floatVal_two_pow_succ, sub_add_cancel]
        exact isPointOf_pat hp hnext (hval' ▸ isLeast_repAbove h (hval' ▸ hnext.mem_rep))
    next hborrow =>
      have hnext : IsFloat p (q + 1) e := ⟨h.normal.succ hcarry hborrow, h.le_exp, h.exp_le⟩
      exact isPointOf_pat hp hnext (isLeast_repAbove h hnext.mem_rep)

/-! ### The bracket of a number -/

/-- The exponent of a number that is not zero. -/
theorem inBinade_normExp (d : Dy) (h : d.m ≠ 0) : InBinade (normExp d) d.val := by
  obtain ⟨m, k⟩ := d
  have hpos := two_zpow_pos k
  have hlo : 2 ^ m.natAbs.log2 ≤ m.natAbs := Nat.log2_self_le (Int.natAbs_ne_zero.mpr h)
  have hhi : m.natAbs < 2 ^ (m.natAbs.log2 + 1) := Nat.lt_log2_self
  rw [normExp]
  dsimp only
  generalize m.natAbs.log2 = l at *
  -- the bounds of a binade, in units of 2^k
  have hunit (n : ℕ) : (2 : ℚ) ^ (k + n) = ((2 ^ n : ℤ) : ℚ) * 2 ^ k := by
    rw [zpow_add₀ two_ne_zero, zpow_natCast, mul_comm]
    norm_cast
  have hsucc : k + l + 1 = k + (l + 1 : ℕ) := by push_cast; ring
  zify at hlo hhi
  split
  next hpow =>
    obtain ⟨hneg, hpow⟩ := hpow
    zify at hpow
    rw [abs_of_neg hneg] at hpow
    rw [InBinade, sub_add_cancel, hunit, Dy.val, ← hpow]
    right
    have hlt : (2 : ℚ) ^ (k + l - 1) < 2 ^ (k + l) := zpow_lt_zpow_right₀ one_lt_two (by omega)
    rw [hunit, ← hpow] at hlt
    push_cast at hlt ⊢
    constructor <;> linarith
  next hpow =>
    rw [InBinade, hsucc, hunit, hunit, Dy.val, ← neg_mul, ← neg_mul, ← Int.cast_neg, ← Int.cast_neg]
    simp only [mul_le_mul_iff_left₀ hpos, mul_lt_mul_iff_left₀ hpos, Int.cast_le, Int.cast_lt]
    zify at hpow
    obtain hneg | hpos := lt_or_gt_of_ne (show m ≠ 0 from h)
    · rw [abs_of_neg hneg] at hlo hhi hpow
      right
      omega
    · rw [abs_of_pos hpos] at hlo hhi hpow
      exact .inl ⟨hlo, hhi⟩

/-- In the exponent range, the lower side is the mantissa rounded down. -/
theorem bracket_in_range {p : ℕ} {d : Dy} (h0 : d.m ≠ 0) (hlo : -127 ≤ normExp d) (hhi : normExp d ≤ 127) :
    let e := normExp d
    let f := Dy.floor ⟨d.m, d.k - (e - p)⟩
    bracket p d = ⟨some (.pat (packFloat p f.1 e)),
      if f.2 then some (.pat (packFloat p f.1 e)) else nextPoint p f.1 e, f.2⟩ := by
  rw [bracket, if_neg h0]
  simp only [if_neg hhi.not_gt, if_neg hlo.not_gt, Dy.floor]
  split
  next hs => simp only [decide_eq_true hs, Bool.true_or, if_true]
  next hs => simp only [decide_eq_false hs, Bool.false_or]

/-- Both sides of a bracket, and when the number itself is representable. -/
structure IsBracket (p : ℕ) (v : ℚ) (br : Bracket) : Prop where
  below : IsPointOf p IsGreatest (repUpTo p v) br.below
  above : IsPointOf p IsLeast (repFrom p v) br.above
  mem_of_exact : br.exact = true → v ∈ Rep p

theorem isBracket_zero (p : ℕ) : IsBracket p 0 ⟨some .zero, some .zero, true⟩ where
  below := isPointOf_zero ⟨⟨zero_mem_rep p, le_rfl⟩, fun _ hy => hy.2⟩
  above := isPointOf_zero ⟨⟨zero_mem_rep p, le_rfl⟩, fun _ hy => hy.2⟩
  mem_of_exact _ := zero_mem_rep p

theorem isFloat_extreme {p : ℕ} {q e : ℤ} (h : Normal p q) (he : e = 127 ∨ e = -127) : IsFloat p q e :=
  ⟨h, by omega, by omega⟩

theorem isBracket_of_ge {p : ℕ} (hp : p ≤ 31) {v : ℚ} (h : 2 ^ (128 : ℤ) ≤ v) :
    IsBracket p v ⟨some (.pat (packFloat p (2 ^ (p + 1) - 1) 127)), none, false⟩ where
  below := by
    have hf := isFloat_extreme (normal_two_pow_succ_sub_one p) (.inl rfl)
    refine isPointOf_pat hp hf ⟨⟨hf.mem_rep, (lt_of_mem_rep hf.mem_rep).le.trans h⟩, fun y hy => ?_⟩
    by_contra hlt
    have hle := le_of_mem_rep_of_lt hf.normal hy.1 (not_le.mp hlt)
    rw [sub_add_cancel, floatVal_two_pow_succ] at hle
    exact (lt_of_mem_rep hy.1).not_ge hle
  above := fun y hy => (h.trans hy.2).not_gt (lt_of_mem_rep hy.1)
  mem_of_exact := nofun

theorem isBracket_of_lt_neg {p : ℕ} (hp : p ≤ 31) {v : ℚ} (h : v < -2 ^ (128 : ℤ)) :
    IsBracket p v ⟨none, some (.pat (packFloat p (-2 ^ (p + 1)) 127)), false⟩ where
  below := fun y hy => (hy.2.trans_lt h).not_ge (le_of_mem_rep hy.1)
  above := by
    have hf := isFloat_extreme (normal_neg_two_pow_succ p) (.inl rfl)
    have hval : floatVal p (-2 ^ (p + 1)) 127 = -2 ^ (128 : ℤ) := by rw [floatVal_neg, floatVal_two_pow_succ]; rfl
    refine isPointOf_pat hp hf ⟨⟨hf.mem_rep, hval ▸ h.le⟩, fun y hy => hval ▸ le_of_mem_rep hy.1⟩
  mem_of_exact := nofun

theorem isBracket_of_small_pos {p : ℕ} (hp : p ≤ 31) {v : ℚ} (h0 : 0 < v) (h : v < 2 ^ (-127 : ℤ)) :
    IsBracket p v ⟨some .zero, some (.pat (packFloat p (2 ^ p) (-127))), false⟩ where
  below := isPointOf_zero ⟨⟨zero_mem_rep p, h0.le⟩, fun y hy =>
    le_of_not_gt fun hpos => (hy.2.trans_lt h).not_ge (le_of_mem_rep_of_pos hy.1 hpos)⟩
  above := by
    have hf := isFloat_extreme (normal_two_pow p) (.inr rfl)
    have hval : floatVal p (2 ^ p) (-127) = 2 ^ (-127 : ℤ) := floatVal_two_pow p _
    exact isPointOf_pat hp hf ⟨⟨hf.mem_rep, hval ▸ h.le⟩, fun y hy => hval ▸ le_of_mem_rep_of_pos hy.1 (h0.trans_le hy.2)⟩
  mem_of_exact := nofun

theorem isBracket_of_small_neg {p : ℕ} (hp : p ≤ 31) {v : ℚ} (h0 : v < 0) (h : -2 ^ (-127 : ℤ) ≤ v) :
    IsBracket p v ⟨some (.pat (packFloat p (-2 ^ p - 1) (-127))), some .zero, false⟩ where
  below := by
    have hf := isFloat_extreme (normal_neg_two_pow_sub_one p) (.inr rfl)
    have hsucc : floatVal p (-2 ^ p - 1 + 1) (-127) = -2 ^ (-127 : ℤ) := by
      rw [sub_add_cancel, floatVal_neg, floatVal_two_pow]
    refine isPointOf_pat hp hf ⟨⟨hf.mem_rep, ?_⟩, fun y hy => ?_⟩
    · exact (floatVal_lt_iff.mpr (lt_add_one _)).le.trans (hsucc ▸ h)
    · by_contra hlt
      have hle := le_of_mem_rep_of_lt hf.normal hy.1 (not_le.mp hlt)
      exact (lt_of_mem_rep_of_neg hy.1 (hy.2.trans_lt h0)).not_ge (hsucc ▸ hle)
  above := isPointOf_zero ⟨⟨zero_mem_rep p, h0.le⟩, fun y hy =>
    le_of_not_gt fun hneg => (lt_of_mem_rep_of_neg hy.1 hneg).not_ge (h.trans hy.2)⟩
  mem_of_exact := nofun

theorem isBracket_in_range {p : ℕ} (hp : p ≤ 31) {d : Dy} (h0 : d.m ≠ 0) (hlo : -127 ≤ normExp d)
    (hhi : normExp d ≤ 127) :
    IsBracket p d.val (bracket p d) := by
  rw [bracket_in_range h0 hlo hhi]
  have hbin := inBinade_normExp d h0
  generalize normExp d = e at *
  have hscaled : (Dy.val ⟨d.m, d.k - (e - p)⟩) = d.val * 2 ^ (p - e : ℤ) := by
    rw [Dy.val, Dy.val, mul_assoc, ← zpow_add₀ two_ne_zero, sub_eq_add_neg, neg_sub]
  have hexact : (Dy.floor ⟨d.m, d.k - (e - p)⟩).2 = true ↔ floatVal p ⌊d.val * 2 ^ (p - e : ℤ)⌋ e = d.val := by
    rw [Dy.floor_snd, hscaled, floatVal_eq_iff]
  rw [Dy.floor_fst, hscaled]
  have hle := floatVal_floor_le p e d.val
  have hlt := lt_floatVal_floor_add_one p e d.val
  have hq : IsFloat p ⌊d.val * 2 ^ (p - e : ℤ)⌋ e := ⟨hbin.normal_floor p, hlo, hhi⟩
  generalize ⌊d.val * 2 ^ (p - e : ℤ)⌋ = q at *
  refine ⟨isPointOf_pat hp hq ⟨⟨hq.mem_rep, hle⟩, fun y hy => ?_⟩, ?_, fun h => hexact.mp h ▸ hq.mem_rep⟩
  · by_contra hgt
    exact (hy.2.trans_lt hlt).not_ge (le_of_mem_rep_of_lt hq.normal hy.1 (not_le.mp hgt))
  · split
    next h => exact isPointOf_pat hp hq ⟨⟨hq.mem_rep, (hexact.mp h).ge⟩, fun y hy => (hexact.mp h).trans_le hy.2⟩
    next h =>
      have hne : floatVal p q e ≠ d.val := mt hexact.mpr h
      have hset : repFrom p d.val = repAbove p (floatVal p q e) := Set.ext fun y => and_congr_right fun hy =>
        ⟨(lt_of_le_of_ne hle hne).trans_le, fun hgt => hlt.le.trans (le_of_mem_rep_of_lt hq.normal hy hgt)⟩
      exact hset ▸ nextPoint_isLeast hp hq

theorem isBracket_bracket {p : ℕ} (hp : p ≤ 31) (d : Dy) : IsBracket p d.val (bracket p d) := by
  by_cases h0 : d.m = 0
  · rw [bracket, if_pos h0, (Dy.m_eq_zero_iff d).mp h0]
    exact isBracket_zero p
  have hbin := inBinade_normExp d h0
  have hneg (hpos : ¬0 < d.m) : d.val < 0 :=
    lt_of_le_of_ne (not_lt.mp (mt d.m_pos_iff.mpr hpos)) (mt d.m_eq_zero_iff.mpr h0)
  obtain hover | hover := lt_or_ge 127 (normExp d)
  · have hle := two_zpow_le (show 128 ≤ normExp d by omega)
    rw [bracket, if_neg h0]
    simp only [if_pos hover]
    split
    next hpos => exact isBracket_of_ge hp (hle.trans (hbin.of_pos (d.m_pos_iff.mp hpos)).1)
    next hpos => exact isBracket_of_lt_neg hp ((hbin.of_neg (hneg hpos)).2.trans_le (neg_le_neg hle))
  obtain hunder | hunder := lt_or_ge (normExp d) (-127)
  · have hle := two_zpow_le (show normExp d + 1 ≤ -127 by omega)
    rw [bracket, if_neg h0]
    simp only [if_neg hover.not_gt, if_pos hunder]
    split
    next hpos =>
      have hval := d.m_pos_iff.mp hpos
      exact isBracket_of_small_pos hp hval ((hbin.of_pos hval).2.trans_le hle)
    next hpos => exact isBracket_of_small_neg hp (hneg hpos) ((neg_le_neg hle).trans (hbin.of_neg (hneg hpos)).1)
  exact isBracket_in_range hp h0 hunder hover

end Sys2Proof.Machine
end

section
/-!
Rounding rises with the exact result (R166 P5). A rounded result stands on the same side of every representable number as
the exact one; so two exact results with a representable number between them keep their order, and two without one have
the same neighbours, between which the same cut decides.
-/
namespace Sys2Proof.Machine

/-! ### Cuts and climbing -/

/-- A greater exact result passes every cut that a smaller one passes, whatever the operands are. -/
theorem passesCut_of_lt {op : FloatOp} {a b a' b' : Ext} {d d' : Dy} {pt : Point} (h : d.val < d'.val)
    (hd : passesCut op a b d pt = true) : passesCut op a' b' d' pt = true := by
  simp only [passesCut, Bool.or_eq_true, Bool.and_eq_true, Dy.lt_iff, Dy.eq_iff] at hd ⊢
  obtain hlt | ⟨heq, -⟩ := hd
  · exact .inl (hlt.trans h)
  · exact .inl (heq.trans_lt h)

theorem climb_eq_getElem (passes : Point → Bool) (lo : Point) (above : List Point) :
    climb passes lo above =
      (lo :: above)[above.countP passes]'(Nat.lt_succ_of_le List.countP_le_length) :=
  List.getD_eq_getElem ..

theorem climb_mem (passes : Point → Bool) (lo : Point) (above : List Point) : climb passes lo above ∈ lo :: above :=
  climb_eq_getElem passes lo above ▸ List.getElem_mem _

/-- Where more points are passed, the climb ends no lower. -/
theorem climb_mono {passes passes' : Point → Bool} {lo : Point} {above : List Point}
    (hsorted : (lo :: above).Pairwise fun p q => p.val ≤ q.val)
    (h : ∀ pt ∈ above, passes pt = true → passes' pt = true) :
    (climb passes lo above).val ≤ (climb passes' lo above).val := by
  rw [climb_eq_getElem, climb_eq_getElem]
  obtain hlt | heq := (List.countP_mono_left h).lt_or_eq
  · exact List.pairwise_iff_getElem.mp hsorted _ _ _ _ hlt
  · simp only [heq, le_refl]

theorem climb_cons_of_pass {passes : Point → Bool} {next : Point} (h : passes next = true) (lo : Point)
    (rest : List Point) :
    climb passes lo (next :: rest) = climb passes next rest := by
  simp only [climb_eq_getElem, List.countP_cons_of_pos h, List.getElem_cons_succ]

theorem climb_of_none_passes {passes : Point → Bool} {above : List Point} (h : ∀ pt ∈ above, passes pt = false)
    (lo : Point) :
    climb passes lo above = lo := by
  have hzero : above.countP passes = 0 := List.countP_eq_zero.mpr fun pt hpt => by simp [h pt hpt]
  simp only [climb_eq_getElem, hzero, List.getElem_cons_zero]

/-- The climb to the points not above one of them ends there. -/
theorem climb_eq_self {lo top : Point} {above : List Point} (hsorted : (lo :: above).Pairwise fun p q => p.val < q.val)
    (h : top ∈ lo :: above) : climb (fun pt => decide (pt.val ≤ top.val)) lo above = top := by
  obtain rfl | htop := List.mem_cons.mp h
  · exact climb_of_none_passes (fun pt hpt => decide_eq_false ((List.pairwise_cons.mp hsorted).1 pt hpt).not_ge) _
  induction above generalizing lo with
  | nil => exact absurd htop List.not_mem_nil
  | cons next rest ih =>
    have hrest := (List.pairwise_cons.mp hsorted).2
    obtain rfl | htop' := List.mem_cons.mp htop
    · rw [climb_cons_of_pass (decide_eq_true le_rfl)]
      exact climb_of_none_passes (fun pt hpt => decide_eq_false ((List.pairwise_cons.mp hrest).1 pt hpt).not_ge) _
    · rw [climb_cons_of_pass (decide_eq_true ((List.pairwise_cons.mp hrest).1 top htop').le)]
      exact ih hrest htop htop'

/-! ### Results beside the exact number -/

/-- r is on the same side of every representable number as v. -/
def RoundsTo (p : ℕ) (v r : ℚ) : Prop := ∀ y ∈ Rep p, (y ≤ v → y ≤ r) ∧ (v ≤ y → r ≤ y)

theorem RoundsTo.refl (p : ℕ) (v : ℚ) : RoundsTo p v v := fun _ _ => ⟨id, id⟩

/-- Two results keep the order of their exact numbers if they do so where no representable number lies between. -/
theorem RoundsTo.le_of_gap {p : ℕ} {v v' r r' : ℚ} (hr : RoundsTo p v r) (hr' : RoundsTo p v' r')
    (hgap : (∀ y ∈ Rep p, ¬(v ≤ y ∧ y ≤ v')) → r ≤ r') : r ≤ r' := by
  by_cases h : ∃ y ∈ Rep p, v ≤ y ∧ y ≤ v'
  · obtain ⟨y, hy, h1, h2⟩ := h
    exact ((hr y hy).2 h1).trans ((hr' y hy).1 h2)
  · exact hgap fun y hy hbetween => h ⟨y, hy, hbetween⟩

theorem repUpTo_eq_of_gap {p : ℕ} {v v' : ℚ} (h : v < v') (hgap : ∀ y ∈ Rep p, ¬(v ≤ y ∧ y ≤ v')) :
    repUpTo p v = repUpTo p v' := Set.ext fun y => and_congr_right fun hy =>
  ⟨fun hle => hle.trans h.le, fun hle => le_of_not_ge fun hge => hgap y hy ⟨hge, hle⟩⟩

theorem repFrom_eq_of_gap {p : ℕ} {v v' : ℚ} (h : v < v') (hgap : ∀ y ∈ Rep p, ¬(v ≤ y ∧ y ≤ v')) :
    repFrom p v = repFrom p v' := Set.ext fun y => and_congr_right fun hy =>
  ⟨fun hle => le_of_not_ge fun hge => hgap y hy ⟨hle, hge⟩, fun hle => h.le.trans hle⟩

theorem IsBracket.sides_eq_of_gap {p : ℕ} (hp : p ≤ 31) {v v' : ℚ} {br br' : Bracket} (hbr : IsBracket p v br)
    (hbr' : IsBracket p v' br') (h : v < v') (hgap : ∀ y ∈ Rep p, ¬(v ≤ y ∧ y ≤ v')) :
    br.below = br'.below ∧ br.above = br'.above :=
  ⟨hbr.below.unique hp (fun _ h => h.1) (fun _ _ => IsGreatest.unique) (repUpTo_eq_of_gap h hgap ▸ hbr'.below),
    hbr.above.unique hp (fun _ h => h.1) (fun _ _ => IsLeast.unique) (repFrom_eq_of_gap h hgap ▸ hbr'.above)⟩

theorem roundsTo_of_isGreatest {p : ℕ} {v r : ℚ} (h : IsGreatest (repUpTo p v) r) : RoundsTo p v r :=
  fun _ hy => ⟨fun hle => h.2 ⟨hy, hle⟩, h.1.2.trans⟩

theorem roundsTo_of_isLeast {p : ℕ} {v r : ℚ} (h : IsLeast (repFrom p v) r) : RoundsTo p v r :=
  fun _ hy => ⟨fun hle => hle.trans h.1.2, fun hle => h.2 ⟨hy, hle⟩⟩

/-- A bracket has a side, as zero is representable. -/
theorem IsBracket.above_ne_none {p : ℕ} {v : ℚ} {br : Bracket} (h : IsBracket p v br) (hb : br.below = none) :
    br.above ≠ none := by
  intro ha
  have hbelow := h.below
  have habove := h.above
  rw [hb] at hbelow
  rw [ha] at habove
  obtain h0 | h0 := le_total 0 v
  · exact hbelow 0 ⟨zero_mem_rep p, h0⟩
  · exact habove 0 ⟨zero_mem_rep p, h0⟩

/-- A neighbour is chosen, the lower or the upper one. -/
theorem IsBracket.chooseNear_eq {p : ℕ} {v : ℚ} {br : Bracket} (hbr : IsBracket p v br) (op : FloatOp) (a b : Ext)
    (d : Dy) :
    ∃ pt, chooseNear op a b d br = realise op a b pt ∧ (br.below = some pt ∨ br.above = some pt) := by
  match hb : br.below, ha : br.above with
  | some lo, some hi =>
    have hmem : climb (passesCut op a b d) lo [hi] = lo ∨ climb (passesCut op a b d) lo [hi] = hi := by
      simpa using climb_mem (passesCut op a b d) lo [hi]
    exact ⟨_, by rw [chooseNear, hb, ha], hmem.imp (congrArg some ·.symm) (congrArg some ·.symm)⟩
  | some lo, none => exact ⟨lo, by rw [chooseNear, hb, ha], .inl rfl⟩
  | none, some hi => exact ⟨hi, by rw [chooseNear, hb, ha], .inr rfl⟩
  | none, none => exact absurd ha (hbr.above_ne_none hb)

theorem IsBracket.roundsTo {p : ℕ} {v : ℚ} {br : Bracket} (hbr : IsBracket p v br) (op : FloatOp) (a b : Ext) (d : Dy) :
    RoundsTo p v (valF (chooseNear op a b d br)) := by
  obtain ⟨pt, hpt, hside⟩ := hbr.chooseNear_eq op a b d
  have hbelow := hbr.below
  have habove := hbr.above
  rw [hpt, valF_realise]
  obtain h | h := hside
  · rw [h] at hbelow
    exact roundsTo_of_isGreatest hbelow.2
  · rw [h] at habove
    exact roundsTo_of_isLeast habove.2

/-- Between the same neighbours the choice rises with the exact number. -/
theorem IsBracket.chooseNear_le {p : ℕ} {d d' : Dy} {br br' : Bracket} (hbr : IsBracket p d.val br)
    (h : d.val < d'.val) (hsides : br.below = br'.below ∧ br.above = br'.above) (op : FloatOp) (a b a' b' : Ext) :
    valF (chooseNear op a b d br) ≤ valF (chooseNear op a' b' d' br') := by
  have hbelow := hbr.below
  have habove := hbr.above
  simp only [chooseNear, ← hsides.1, ← hsides.2]
  match hb : br.below, ha : br.above with
  | some lo, some hi =>
    rw [hb] at hbelow
    rw [ha] at habove
    have hle : lo.val ≤ hi.val := hbelow.2.1.2.trans habove.2.1.2
    simp only [valF_realise]
    exact climb_mono (by simpa using hle) fun _ _ => passesCut_of_lt h
  | some lo, none | none, some lo => simp only [valF_realise, le_refl]
  | none, none => exact absurd ha (hbr.above_ne_none hb)

/-! ### Sum, difference, negation and absolute value -/

/-- The extended result is the exact number or a chosen neighbour. -/
theorem roundExt_value (op : FloatOp) (a b : Ext) (d : Dy) :
    d.val ∈ Rep 31 ∧ valF (roundExt op a b d).value = d.val ∨
      (roundExt op a b d).value = chooseNear op a b d (bracket 31 d) := by
  have hbr := isBracket_bracket (le_refl 31) d
  have hbelow := hbr.below
  rw [roundExt]
  split
  next pt hexact hb =>
    have hmem := hbr.mem_of_exact hexact
    rw [hb] at hbelow
    rw [exactResult, valF_realise]
    exact .inl ⟨hmem, le_antisymm hbelow.2.1.2 (hbelow.2.2 ⟨hmem, le_rfl⟩)⟩
  next => exact .inr rfl

theorem roundExt_roundsTo (op : FloatOp) (a b : Ext) (d : Dy) : RoundsTo 31 d.val (valF (roundExt op a b d).value) := by
  obtain ⟨-, hval⟩ | hval := roundExt_value op a b d
  · exact hval ▸ RoundsTo.refl 31 _
  · exact hval ▸ (isBracket_bracket (le_refl 31) d).roundsTo op a b d

/-- R166 P5 for every operation that rounds to the extended format. -/
theorem roundExt_le {d d' : Dy} (h : d.val < d'.val) (op : FloatOp) (a b a' b' : Ext) :
    valF (roundExt op a b d).value ≤ valF (roundExt op a' b' d').value := by
  refine (roundExt_roundsTo op a b d).le_of_gap (roundExt_roundsTo op a' b' d') fun hgap => ?_
  have hbr := isBracket_bracket (le_refl 31) d
  have hbr' := isBracket_bracket (le_refl 31) d'
  obtain ⟨hmem, -⟩ | hval := roundExt_value op a b d
  · exact absurd ⟨le_rfl, h.le⟩ (hgap _ hmem)
  obtain ⟨hmem, -⟩ | hval' := roundExt_value op a' b' d'
  · exact absurd ⟨h.le, le_rfl⟩ (hgap _ hmem)
  rw [hval, hval']
  exact hbr.chooseNear_le h (hbr.sides_eq_of_gap (le_refl 31) hbr' h hgap) op a b a' b'

theorem fadd_le {a b c d : Ext} (h : valF a + valF b < valF c + valF d) :
    valF (fadd a b).value ≤ valF (fadd c d).value :=
  roundExt_le (by simpa [val_dyOf] using h) ..

theorem fsub_le {a b c d : Ext} (h : valF a - valF b < valF c - valF d) :
    valF (fsub a b).value ≤ valF (fsub c d).value :=
  roundExt_le (by simpa [val_dyOf, ← sub_eq_add_neg] using h) ..

theorem fneg_le {a c : Ext} (ha : a ≠ mostNegF) (hc : c ≠ mostNegF) (h : -valF a < -valF c) :
    valF (fneg a).value ≤ valF (fneg c).value := by
  rw [fneg, fneg, if_neg ha, if_neg hc]
  exact roundExt_le (by rwa [Dy.val_neg, Dy.val_neg, val_dyOf, val_dyOf]) ..

theorem fabs_le {a c : Ext} (ha : a ≠ mostNegF) (hc : c ≠ mostNegF) (h : |valF a| < |valF c|) :
    valF (fabs a).value ≤ valF (fabs c).value := by
  rw [fabs, fabs, if_neg ha, if_neg hc]
  exact roundExt_le (by rwa [Dy.val_abs, Dy.val_abs, val_dyOf, val_dyOf]) ..

/-! ### RND -/

/-- A number that a single-format number bounds from above has an upper neighbour. -/
theorem IsBracket.exists_above {p : ℕ} {v : ℚ} {br : Bracket} (hbr : IsBracket p v br) {y : ℚ} (hy : y ∈ Rep p)
    (h : v ≤ y) :
    ∃ hi, br.above = some hi := by
  have habove := hbr.above
  match ha : br.above with
  | some hi => exact ⟨hi, rfl⟩
  | none =>
    rw [ha] at habove
    exact absurd ⟨hy, h⟩ (habove y)

theorem frnd_of_isSingle {a : Ext} (h : isSingle a = true) :
    valF (frnd a).value = valF a ∧ (frnd a).v = false ∧ (frnd a).uf = false := by
  cases hz : isZeroF a with
  | true => simp [frnd, hz, exactResult, valF_of_zero hz]
  | false => simp [frnd, hz, h]

/-- RND of another value with a single-format value above it is a chosen single-format neighbour (log 20). -/
theorem frnd_value {a : Ext} (h : isSingle a = false) {y : ℚ} (hy : y ∈ Rep 23) (hle : valF a ≤ y) :
    (frnd a).value = chooseNear .rnd a 0 (dyOf a) (bracket 23 (dyOf a)) := by
  obtain ⟨hi, ha⟩ := (isBracket_bracket (by decide : 23 ≤ 31) (dyOf a)).exists_above hy (val_dyOf a ▸ hle)
  have hz : isZeroF a = false := (Bool.or_eq_false_iff.mp h).1
  simp only [frnd, hz, h, ha, Bool.false_eq_true, if_false]

theorem isBracket_single (a : Ext) : IsBracket 23 (valF a) (bracket 23 (dyOf a)) :=
  val_dyOf a ▸ isBracket_bracket (by decide) (dyOf a)

theorem frnd_roundsTo {a : Ext} {y : ℚ} (hy : y ∈ Rep 23) (hle : valF a ≤ y) :
    RoundsTo 23 (valF a) (valF (frnd a).value) := by
  cases h : isSingle a with
  | true => exact (frnd_of_isSingle h).1 ▸ RoundsTo.refl 23 _
  | false => exact frnd_value h hy hle ▸ (isBracket_single a).roundsTo .rnd a 0 (dyOf a)

theorem frnd_le {a c : Ext} {y : ℚ} (hy : y ∈ Rep 23) (hle : valF c ≤ y) (h : valF a < valF c) :
    valF (frnd a).value ≤ valF (frnd c).value := by
  refine (frnd_roundsTo hy (h.le.trans hle)).le_of_gap (frnd_roundsTo hy hle) fun hgap => ?_
  cases ha : isSingle a with
  | true => exact absurd ⟨le_rfl, h.le⟩ (hgap _ (valF_mem_rep_of_isSingle ha))
  | false =>
    cases hc : isSingle c with
    | true => exact absurd ⟨h.le, le_rfl⟩ (hgap _ (valF_mem_rep_of_isSingle hc))
    | false =>
      rw [frnd_value ha hy (h.le.trans hle), frnd_value hc hy hle]
      have hsides := (isBracket_single a).sides_eq_of_gap (by decide) (isBracket_single c) h hgap
      rw [← val_dyOf, ← val_dyOf] at h
      exact (isBracket_bracket (by decide) (dyOf a)).chooseNear_le h hsides ..

theorem low8_realise_rnd {pt : Point} (h : IsPoint 23 pt) (a b : Ext) :
    (realise .rnd a b pt).extractLsb' 0 8 = 0#8 := by
  cases h with
  | zero => exact BitVec.extractLsb'_append_eq_right
  | pat h => exact low8_packFloat h

/-- Where RND chooses, the low 8 fraction bits are 0 (R344). -/
theorem low8_frnd {a : Ext} (h : isSingle a = false) {y : ℚ} (hy : y ∈ Rep 23) (hle : valF a ≤ y) :
    (frnd a).value.extractLsb' 0 8 = 0#8 := by
  have hbr := isBracket_single a
  have hbelow := hbr.below
  have habove := hbr.above
  obtain ⟨pt, hpt, hside⟩ := hbr.chooseNear_eq .rnd a 0 (dyOf a)
  rw [frnd_value h hy hle, hpt]
  obtain h | h := hside
  · rw [h] at hbelow
    exact low8_realise_rnd hbelow.1 ..
  · rw [h] at habove
    exact low8_realise_rnd habove.1 ..

end Sys2Proof.Machine
end

section
/-!
The products that P1 fixes (R166, log 19): an extended number that is the product of two single-format numbers passes
`isProduct`, as the odd part of its mantissa is the product of two odd parts below 2^24, of which the smaller is below 2^16.
-/
namespace Sys2Proof.Machine

theorem oddPart_eq_ordCompl {n m : ℕ} (h0 : m ≠ 0) (h : m ≤ 2 ^ n) : oddPart n m = ordCompl[2] m := by
  induction n generalizing m with
  | zero =>
    obtain rfl : m = 1 := by omega
    simp [oddPart]
  | succ n ih =>
    rw [oddPart]
    split
    next heven =>
      have hm : m = 2 ^ 1 * (m / 2) := by omega
      rw [ih (by omega) (by omega)]
      conv_rhs => rw [hm, Nat.ordCompl_self_pow_mul _ _ Nat.prime_two]
    next hodd => exact ((Nat.ordCompl_eq_self_iff_zero_or_not_dvd m Nat.prime_two).mpr (.inr (by omega))).symm

/-- Of the numbers up to a power of two, only the power itself has that size, and its odd part is 1. -/
theorem ordCompl_two_lt {n m : ℕ} (hn : n ≠ 0) (h : m ≤ 2 ^ n) : ordCompl[2] m < 2 ^ n := by
  obtain hlt | rfl := h.lt_or_eq
  · exact (Nat.ordCompl_le m 2).trans_lt hlt
  · exact (Nat.ordCompl_self_pow Nat.prime_two).trans_lt (Nat.one_lt_two_pow hn)

theorem ordCompl_two_eq_of_zpow {x y : ℕ} {m n : ℤ} (h : (x : ℚ) * 2 ^ m = y * 2 ^ n) :
    ordCompl[2] x = ordCompl[2] y := by
  rw [← mul_two_pow_mul_zpow _ (min_le_left m n), ← mul_two_pow_mul_zpow _ (min_le_right m n)] at h
  have hnat := mul_right_cancel₀ (two_zpow_pos _).ne' h
  norm_cast at hnat
  rw [← Nat.ordCompl_self_pow_mul x _ Nat.prime_two, mul_comm, hnat, mul_comm, Nat.ordCompl_self_pow_mul _ _ Nat.prime_two]

theorem Normal.natAbs_le {p : ℕ} {q : ℤ} (h : Normal p q) : q.natAbs ≤ 2 ^ (p + 1) := by
  zify
  unfold Normal at h
  have : (0 : ℤ) < 2 ^ p := by positivity
  rw [abs_le]
  omega

/-- Of two factors of a number below 2^32, one is below 2^16. -/
theorem exists_small_factor {u v : ℕ} (hu : u < 2 ^ 24) (hv : v < 2 ^ 24) (hu0 : 0 < u) (hv0 : 0 < v)
    (huv : u * v < 2 ^ 32) :
    ∃ p, p < 2 ^ 16 ∧ (p ∣ u * v ∧ u * v / p < 2 ^ 24) := by
  obtain h | h := lt_or_ge u (2 ^ 16)
  · exact ⟨u, h, Nat.dvd_mul_right u v, by rwa [Nat.mul_div_cancel_left v hu0]⟩
  · have hsmall : v < 2 ^ 16 := by
      by_contra hge
      have := Nat.mul_le_mul h (not_lt.mp hge)
      omega
    exact ⟨v, hsmall, Nat.dvd_mul_left v u, by rwa [Nat.mul_div_cancel u hv0]⟩

/-- A product of two mantissas of the single format, at whatever exponents, passes `isProduct`. -/
theorem isProduct_packFloat {q e a ea b eb : ℤ} (hq : IsFloat 31 q e) (ha : IsFloat 23 a ea) (hb : IsFloat 23 b eb)
    (h : floatVal 31 q e = floatVal 23 a ea * floatVal 23 b eb) : isProduct (.pat (packFloat 31 q e)) = true := by
  have hodd : ordCompl[2] q.natAbs = ordCompl[2] (a.natAbs * b.natAbs) := by
    have habs := congrArg abs h
    simp only [floatVal, abs_mul, abs_of_pos (two_zpow_pos _), ← Int.cast_abs] at habs
    rw [mul_mul_mul_comm, ← zpow_add₀ two_ne_zero] at habs
    refine ordCompl_two_eq_of_zpow (m := e - (31 : ℕ)) (n := ea - (23 : ℕ) + (eb - (23 : ℕ))) ?_
    simpa using habs
  have ha0 := Int.natAbs_ne_zero.mpr ha.normal.ne_zero
  have hb0 := Int.natAbs_ne_zero.mpr hb.normal.ne_zero
  have hlt := hodd ▸ ordCompl_two_lt (by decide) hq.normal.natAbs_le
  rw [Nat.ordCompl_mul] at hodd hlt
  rw [isProduct, mantInt_packFloat le_rfl hq.normal, Nat.sub_self, pow_zero, mul_one, decide_eq_true_iff,
    oddPart_eq_ordCompl (Int.natAbs_ne_zero.mpr hq.normal.ne_zero) hq.normal.natAbs_le, hodd]
  exact exists_small_factor (ordCompl_two_lt (by decide) ha.normal.natAbs_le) (ordCompl_two_lt (by decide) hb.normal.natAbs_le)
    (Nat.ordCompl_pos 2 ha0) (Nat.ordCompl_pos 2 hb0) hlt

/-- A number that P1 fixes as a product: an extended number whose point passes `isProduct`. -/
structure FixedProduct (f : ℚ) : Prop where
  mem_rep : f ∈ Rep 31
  isProduct : ∀ pt, IsPoint 31 pt → pt.val = f → isProduct pt = true

theorem fixedProduct_zero : FixedProduct 0 where
  mem_rep := zero_mem_rep 31
  isProduct pt hpt h := by
    rw [hpt.eq_of_val_eq le_rfl .zero (h.trans Point.val_zero.symm)]
    rfl

theorem fixedProduct_mul {u v : ℚ} (hu : u ∈ Rep 23) (hv : v ∈ Rep 23) (h : u * v ∈ Rep 31) : FixedProduct (u * v) := by
  obtain rfl | ⟨a, ea, ha, rfl⟩ := hu
  · exact (zero_mul v).symm ▸ fixedProduct_zero
  obtain rfl | ⟨b, eb, hb, rfl⟩ := hv
  · exact (mul_zero (floatVal 23 a ea)).symm ▸ fixedProduct_zero
  refine ⟨h, fun pt hpt hval => ?_⟩
  cases hpt with
  | zero => rfl
  | pat hq =>
    rw [Point.val_pat, valF_packFloat le_rfl hq] at hval
    exact isProduct_packFloat hq ha hb hval

end Sys2Proof.Machine
end

section
/-!
The points between neighbouring single-format numbers: the list that a product climbs holds the extended numbers above a
single-format number up to the next one, in rising order.
-/
namespace Sys2Proof.Machine

/-- The extended numbers that are not above any single-format number above s. -/
def gapAbove (s : ℚ) : Set ℚ := {y | y ∈ Rep 31 ∧ ∀ z ∈ Rep 23, s < z → y ≤ z}

/-- The points of `gapAbove s` above v, in rising order. -/
structure Ladder (s v : ℚ) (points : List Point) : Prop where
  isPoint : ∀ pt ∈ points, IsPoint 31 pt
  sorted : points.Pairwise fun p q => p.val < q.val
  mem_iff : ∀ y, (∃ pt ∈ points, pt.val = y) ↔ y ∈ gapAbove s ∧ v < y

theorem Ladder.lt_of_mem {s v : ℚ} {points : List Point} (h : Ladder s v points) {pt : Point} (hpt : pt ∈ points) :
    v < pt.val := ((h.mem_iff _).mp ⟨pt, hpt, rfl⟩).2

theorem Ladder.mem_gapAbove {s v : ℚ} {points : List Point} (h : Ladder s v points) {pt : Point} (hpt : pt ∈ points) :
    pt.val ∈ gapAbove s := ((h.mem_iff _).mp ⟨pt, hpt, rfl⟩).1

theorem nextPoint_of_normal {p : ℕ} {q : ℤ} (h : Normal p (q + 1)) (e : ℤ) :
    nextPoint p q e = some (.pat (packFloat p (q + 1) e)) := by
  have hpos : (0 : ℤ) < 2 ^ p := by positivity
  have h1 : q + 1 ≠ 2 ^ (p + 1) := by unfold Normal at h; omega
  have h2 : q + 1 ≠ -2 ^ p := by unfold Normal at h; omega
  rw [nextPoint, if_neg h1, if_neg h2]

/-- The extended number before a single-format number has the successor that the single-format number before has. -/
theorem nextPoint_single (q e : ℤ) : nextPoint 31 (256 * (q + 1) - 1) e = nextPoint 23 q e := by
  have h1 : 256 * (q + 1) = 2 ^ (31 + 1) ↔ q + 1 = 2 ^ (23 + 1) := by omega
  have h2 : 256 * (q + 1) = -2 ^ 31 ↔ q + 1 = -2 ^ 23 := by omega
  have h3 (e : ℤ) : packFloat 31 (2 ^ 31) e = packFloat 23 (2 ^ 23) e := by
    rw [← packFloat_single]; norm_num
  have h4 (e : ℤ) : packFloat 31 (-2 ^ (31 + 1)) e = packFloat 23 (-2 ^ (23 + 1)) e := by
    rw [← packFloat_single]; norm_num
  simp only [nextPoint, sub_add_cancel, h1, h2, h3, h4, packFloat_single]

/-- The last step of a ladder: from the last extended number before the next single-format one. -/
theorem ladder_last {q e : ℤ} (h : IsFloat 23 q e) (h' : IsFloat 31 (256 * (q + 1) - 1) e) :
    Ladder (floatVal 23 q e) (floatVal 31 (256 * (q + 1) - 1) e) (nextPoint 31 (256 * (q + 1) - 1) e).toList := by
  have hleast := nextPoint_isLeast le_rfl h'
  have hleast' := nextPoint_isLeast (by decide) h
  rw [← nextPoint_single] at hleast'
  cases hnext : nextPoint 31 (256 * (q + 1) - 1) e with
  | none =>
    rw [hnext] at hleast
    exact ⟨by simp, by simp, fun y => by simpa using fun hy : y ∈ gapAbove _ => not_lt.mp fun hlt => hleast y ⟨hy.1, hlt⟩⟩
  | some pt =>
    rw [hnext] at hleast hleast'
    obtain ⟨hpt, ⟨hmem, hlt⟩, hle⟩ := hleast
    obtain ⟨-, hmem', hle'⟩ := hleast'
    refine ⟨by simpa using hpt, by simp, fun y => ?_⟩
    simp only [Option.toList_some, List.mem_singleton, exists_eq_left]
    constructor
    · rintro rfl
      exact ⟨⟨hmem, fun z hz hlt => hle' ⟨hz, hlt⟩⟩, hlt⟩
    · rintro ⟨hy, hlt⟩
      exact le_antisymm (hle ⟨hy.1, hlt⟩) (hy.2 _ hmem'.1 hmem'.2)

/-- A step of a ladder within a binade. -/
theorem Ladder.cons {s : ℚ} {q e : ℤ} {points : List Point} (h : IsFloat 31 q e) (h' : IsFloat 31 (q + 1) e)
    (hgap : floatVal 31 (q + 1) e ∈ gapAbove s) (hl : Ladder s (floatVal 31 (q + 1) e) points) :
    Ladder s (floatVal 31 q e) (.pat (packFloat 31 (q + 1) e) :: points) := by
  have hval : (Point.pat (packFloat 31 (q + 1) e)).val = floatVal 31 (q + 1) e :=
    (Point.val_pat _).trans (valF_packFloat le_rfl h')
  have hlt : floatVal 31 q e < floatVal 31 (q + 1) e := floatVal_lt_iff.mpr (lt_add_one q)
  refine ⟨?_, List.pairwise_cons.mpr ⟨fun pt hpt => hval ▸ hl.lt_of_mem hpt, hl.sorted⟩, fun y => ?_⟩
  · rintro pt (_ | ⟨_, hpt⟩)
    · exact .pat h'
    · exact hl.isPoint pt hpt
  · simp only [List.mem_cons, exists_eq_or_imp, hval, hl.mem_iff]
    constructor
    · rintro (rfl | ⟨hy, hy'⟩)
      · exact ⟨hgap, hlt⟩
      · exact ⟨hy, hlt.trans hy'⟩
    · rintro ⟨hy, hy'⟩
      exact (le_of_mem_rep_of_lt h.normal hy.1 hy').eq_or_lt.imp id fun hlt => ⟨hy, hlt⟩

theorem nextPoint_packFloat {q e : ℤ} (h : IsFloat 31 q e) :
    nextPoint 31 (mantInt (packFloat 31 q e)) (expField (packFloat 31 q e)).toInt = nextPoint 31 q e := by
  rw [mantInt_packFloat le_rfl h.normal, expField_packFloat h, Nat.sub_self, pow_zero, mul_one]

/-- Between two single-format mantissas all extended mantissas are normal. -/
theorem IsFloat.between {q q' e : ℤ} (h : IsFloat 23 q e) (hlo : 256 * q ≤ q') (hhi : q' < 256 * (q + 1)) :
    IsFloat 31 q' e := by
  have hn := h.normal
  refine ⟨?_, h.le_exp, h.exp_le⟩
  unfold Normal at *
  omega

theorem pointsAbove_isLadder {n : ℕ} {q q' e : ℤ} (h : IsFloat 23 q e) (hlo : 256 * q ≤ q')
    (hn : q' + n + 1 = 256 * (q + 1)) :
    Ladder (floatVal 23 q e) (floatVal 31 q' e) (pointsAbove (n + 1) (packFloat 31 q' e)) := by
  have hq' : IsFloat 31 q' e := h.between hlo (by omega)
  induction n generalizing q' with
  | zero =>
    obtain rfl : q' = 256 * (q + 1) - 1 := by push_cast at hn; omega
    have hlast := ladder_last h hq'
    match hnext : nextPoint 31 (256 * (q + 1) - 1) e with
    | none | some .zero | some (.pat y) => simpa only [pointsAbove, nextPoint_packFloat hq', hnext, Option.toList] using hlast
  | succ n ih =>
    push_cast at hn
    have hsucc : IsFloat 31 (q' + 1) e := h.between (by omega) (by omega)
    rw [pointsAbove, nextPoint_packFloat hq', nextPoint_of_normal hsucc.normal]
    refine Ladder.cons hq' hsucc ⟨hsucc.mem_rep, fun z hz hlt => ?_⟩ (ih (by omega) (by omega) hsucc)
    calc floatVal 31 (q' + 1) e ≤ floatVal 31 (256 * (q + 1)) e := floatVal_le_iff.mpr (by omega)
      _ = floatVal 23 (q + 1) e := floatVal_single ..
      _ ≤ z := le_of_mem_rep_of_lt h.normal hz hlt

/-- The extended points above a single-format point, up to the next one. -/
def ladderAbove : Point → List Point
  | .zero => [.pat (packFloat 23 (2 ^ 23) (-127))]
  | .pat x => pointsAbove 256 x

theorem ladderAbove_isLadder {lo : Point} (h : IsPoint 23 lo) : Ladder lo.val lo.val (ladderAbove lo) := by
  cases h with
  | @pat q e h =>
    rw [Point.val_pat, valF_packFloat (by decide) h, ladderAbove, ← packFloat_single]
    exact floatVal_single q e ▸ pointsAbove_isLadder (n := 255) h le_rfl (by push_cast; ring)
  | zero =>
    have hf := isFloat_extreme (normal_two_pow 23) (.inr rfl)
    have hval : (Point.pat (packFloat 23 (2 ^ 23) (-127))).val = 2 ^ (-127 : ℤ) := by
      rw [Point.val_pat, valF_packFloat (by decide) hf, floatVal_two_pow]
    refine ⟨by simpa [ladderAbove] using (IsPoint.pat hf).single, by simp [ladderAbove], fun y => ?_⟩
    simp only [ladderAbove, List.mem_singleton, exists_eq_left, hval, Point.val_zero]
    constructor
    · rintro rfl
      exact ⟨⟨hval ▸ (IsPoint.pat hf).single.val_mem_rep le_rfl, fun z hz h0 => le_of_mem_rep_of_pos hz h0⟩, two_zpow_pos _⟩
    · rintro ⟨hy, h0⟩
      exact le_antisymm (le_of_mem_rep_of_pos hy.1 h0)
        (hy.2 _ (hval ▸ (IsPoint.pat hf).val_mem_rep (by decide)) (two_zpow_pos _))

end Sys2Proof.Machine
end

section
/-!
Products rise with the exact product (R166 P5, log 19): a product that P1 does not fix climbs the extended numbers from the
single-format number below it, and passes no fixed product on the wrong side of the exact one.
-/
namespace Sys2Proof.Machine

/-! ### What a product passes -/

theorem passesMul_iff (a b : Ext) (d : Dy) (fixed : List Point) (pt : Point) : passesMul a b d fixed pt = true ↔
    passesCut .mul a b d pt = true ∧ (∀ q ∈ fixed, q.val < pt.val → q.val ≤ d.val) ∨
      passesCut .mul a b d pt = false ∧ ∃ q ∈ fixed, pt.val ≤ q.val ∧ q.val < d.val := by
  rw [passesMul]
  cases passesCut .mul a b d pt with
  | true => simp [Dy.lt_iff, Point.val_exact]
  | false => simp [← Bool.not_eq_true, Dy.lt_iff, Point.val_exact]

theorem passesMul_of_lt {a b a' b' : Ext} {d d' : Dy} (h : d.val < d'.val) {fixed : List Point} {pt : Point}
    (hd : passesMul a b d fixed pt = true) : passesMul a' b' d' fixed pt = true := by
  rw [passesMul_iff] at hd ⊢
  obtain ⟨hcut, hfixed⟩ | ⟨-, q, hq, hle, hlt⟩ := hd
  · exact .inl ⟨passesCut_of_lt h hcut, fun q hq hlt => (hfixed q hq hlt).trans h.le⟩
  · cases hcut : passesCut .mul a' b' d' pt with
    | true => exact .inl ⟨rfl, fun r _ hr => (hr.trans_le hle).le.trans (hlt.trans h).le⟩
    | false => exact .inr ⟨rfl, q, hq, hle, hlt.trans h⟩

theorem passesMul_of_fixed_below {d : Dy} {fixed : List Point} {f pt : Point} (hf : f ∈ fixed) (hlt : f.val < d.val)
    (hle : pt.val ≤ f.val) (a b : Ext) : passesMul a b d fixed pt = true := by
  rw [passesMul_iff]
  cases passesCut .mul a b d pt with
  | true => exact .inl ⟨rfl, fun q _ hq => (hq.trans_le hle).le.trans hlt.le⟩
  | false => exact .inr ⟨rfl, f, hf, hle, hlt⟩

theorem le_of_passesMul_of_fixed_above {d : Dy} {fixed : List Point} {f pt : Point} (hf : f ∈ fixed)
    (hlt : d.val < f.val)
    {a b : Ext} (h : passesMul a b d fixed pt = true) : pt.val ≤ f.val := by
  obtain ⟨-, hfixed⟩ | ⟨-, q, -, hle, hq⟩ := (passesMul_iff ..).mp h
  · exact not_lt.mp fun hgt => (hfixed f hf hgt).not_gt hlt
  · exact hle.trans (hq.trans hlt).le

/-! ### Where a product climbs -/

/-- The point a product d that P1 does not fix is returned as, from the single-format point lo below it. -/
def productClimb (a b : Ext) (d : Dy) (lo : Point) : Point :=
  climb (passesMul a b d ((ladderAbove lo).filter isProduct)) lo (ladderAbove lo)

theorem productClimb_mem (a b : Ext) (d : Dy) (lo : Point) :
    productClimb a b d lo = lo ∨ productClimb a b d lo ∈ ladderAbove lo :=
  List.mem_cons.mp (climb_mem ..)

theorem ladderAbove_sorted {lo : Point} (h : IsPoint 23 lo) :
    (lo :: ladderAbove lo).Pairwise fun p q => p.val < q.val :=
  List.pairwise_cons.mpr ⟨fun _ hpt => (ladderAbove_isLadder h).lt_of_mem hpt, (ladderAbove_isLadder h).sorted⟩

theorem ladderAbove_climb_mono {lo : Point} (h : IsPoint 23 lo) {passes passes' : Point → Bool}
    (himp : ∀ pt ∈ ladderAbove lo, passes pt = true → passes' pt = true) :
    (climb passes lo (ladderAbove lo)).val ≤ (climb passes' lo (ladderAbove lo)).val :=
  climb_mono ((ladderAbove_sorted h).imp le_of_lt) himp

theorem val_le_productClimb {lo : Point} (h : IsPoint 23 lo) (a b : Ext) (d : Dy) :
    lo.val ≤ (productClimb a b d lo).val := by
  obtain heq | hmem := productClimb_mem a b d lo
  · exact heq.symm ▸ le_rfl
  · exact ((ladderAbove_isLadder h).lt_of_mem hmem).le

theorem productClimb_le {lo : Point} (h : IsPoint 23 lo) {z : ℚ} (hz : z ∈ Rep 23) (hlt : lo.val < z) (a b : Ext)
    (d : Dy) :
    (productClimb a b d lo).val ≤ z := by
  obtain heq | hmem := productClimb_mem a b d lo
  · exact heq.symm ▸ hlt.le
  · exact ((ladderAbove_isLadder h).mem_gapAbove hmem).2 z hz hlt

/-- A fixed product above lo that no single-format number separates from lo is one of the points to climb. -/
theorem exists_mem_of_fixedProduct {f : ℚ} (hf : FixedProduct f) {lo : Point} (h : IsPoint 23 lo) (hlt : lo.val < f)
    (hgap : ∀ z ∈ Rep 23, lo.val < z → f ≤ z) : ∃ pt ∈ ladderAbove lo, pt.val = f ∧ pt ∈ (ladderAbove lo).filter isProduct := by
  have hl := ladderAbove_isLadder h
  obtain ⟨pt, hpt, hval⟩ := (hl.mem_iff f).mpr ⟨⟨hf.mem_rep, hgap⟩, hlt⟩
  exact ⟨pt, hpt, hval, List.mem_filter.mpr ⟨hpt, hf.isProduct pt (hl.isPoint pt hpt) hval⟩⟩

/-- lo is the greatest single-format number not above v, or the greatest below v where v is one itself. -/
structure IsProductFloor (v : ℚ) (lo : Point) : Prop where
  isPoint : IsPoint 23 lo
  le : lo.val ≤ v
  le_of_lt : ∀ z ∈ Rep 23, z < v → z ≤ lo.val

theorem IsProductFloor.mem_rep {v : ℚ} {lo : Point} (h : IsProductFloor v lo) : lo.val ∈ Rep 23 :=
  h.isPoint.val_mem_rep (by decide)

theorem IsProductFloor.productClimb_mono {d d' : Dy} {lo lo' : Point} (h : IsProductFloor d.val lo)
    (h' : IsProductFloor d'.val lo') (hlt : d.val < d'.val) (a b a' b' : Ext) :
    (productClimb a b d lo).val ≤ (productClimb a' b' d' lo').val := by
  obtain hlo | hlo := (h'.le_of_lt _ h.mem_rep (h.le.trans_lt hlt)).eq_or_lt
  · obtain rfl := h.isPoint.eq_of_val_eq (by decide) h'.isPoint hlo
    exact ladderAbove_climb_mono h.isPoint fun _ _ => passesMul_of_lt hlt
  · exact (productClimb_le h.isPoint h'.mem_rep hlo ..).trans (val_le_productClimb h'.isPoint ..)

theorem IsProductFloor.fixed_le_productClimb {d : Dy} {lo : Point} (h : IsProductFloor d.val lo) {f : ℚ}
    (hf : FixedProduct f)
    (hlt : f < d.val) (a b : Ext) : f ≤ (productClimb a b d lo).val := by
  obtain hle | hgt := le_or_gt f lo.val
  · exact hle.trans (val_le_productClimb h.isPoint ..)
  have hgap (z : ℚ) (hz : z ∈ Rep 23) (hlo : lo.val < z) : f ≤ z :=
    hlt.le.trans (not_lt.mp fun hzd => (h.le_of_lt z hz hzd).not_gt hlo)
  obtain ⟨pt, hpt, rfl, hfix⟩ := exists_mem_of_fixedProduct hf h.isPoint hgt hgap
  conv_lhs => rw [← climb_eq_self (ladderAbove_sorted h.isPoint) (List.mem_cons_of_mem _ hpt)]
  exact ladderAbove_climb_mono h.isPoint fun p _ hp => passesMul_of_fixed_below hfix hlt (of_decide_eq_true hp) a b

theorem IsProductFloor.productClimb_le_fixed {d : Dy} {lo : Point} (h : IsProductFloor d.val lo) {f : ℚ}
    (hf : FixedProduct f)
    (hlt : d.val < f) (a b : Ext) : (productClimb a b d lo).val ≤ f := by
  by_cases hsep : ∃ z ∈ Rep 23, lo.val < z ∧ z < f
  · obtain ⟨z, hz, hlo, hzf⟩ := hsep
    exact (productClimb_le h.isPoint hz hlo ..).trans hzf.le
  have hgap (z : ℚ) (hz : z ∈ Rep 23) (hlo : lo.val < z) : f ≤ z := not_lt.mp fun hzf => hsep ⟨z, hz, hlo, hzf⟩
  obtain ⟨pt, hpt, rfl, hfix⟩ := exists_mem_of_fixedProduct hf h.isPoint (h.le.trans_lt hlt) hgap
  conv_rhs => rw [← climb_eq_self (ladderAbove_sorted h.isPoint) (List.mem_cons_of_mem _ hpt)]
  exact ladderAbove_climb_mono h.isPoint fun p _ hp => decide_eq_true (le_of_passesMul_of_fixed_above hfix hlt hp)

/-! ### The neighbours of a product -/

theorem neg_two_zpow_mem_rep : (-2 ^ (128 : ℤ) : ℚ) ∈ Rep 23 := by
  have hf := isFloat_extreme (normal_neg_two_pow_succ 23) (.inl rfl)
  have hval : floatVal 23 (-2 ^ (23 + 1)) 127 = -2 ^ (128 : ℤ) := by rw [floatVal_neg, floatVal_two_pow_succ]; rfl
  exact hval ▸ hf.mem_rep

/-- The number whose bracket a product is returned from: d, or one just below it where d is a single-format number and
counts as below itself (log 19). -/
def nudge (a b : Ext) (d : Dy) : Dy :=
  if (bracket 23 d).exact && Config.floatBelow a b then d.add ⟨-1, -400⟩ else d

/-- No single-format number is lost by going from d down to n. -/
structure IsNudged (d n : Dy) : Prop where
  ne_zero : n.m ≠ 0
  le : n.val ≤ d.val
  le_of_lt : ∀ z ∈ Rep 23, z < d.val → z ≤ n.val

theorem isNudged_self {d : Dy} (h : d.m ≠ 0) : IsNudged d d := ⟨h, le_rfl, fun _ _ => le_of_lt⟩

/-- Single-format numbers are multiples of 2^-150, so 2^-400 is less than the distance between two of them. -/
theorem isNudged_sub {d : Dy} (h : d.m ≠ 0) (hd : d.val ∈ Rep 23) : IsNudged d (d.add ⟨-1, -400⟩) := by
  have hstep {y z : ℚ} (hy : y ∈ Rep 23) (hz : z ∈ Rep 23) (hlt : y < z) : y + 2 ^ (-150 : ℤ) ≤ z := by
    obtain ⟨m, rfl⟩ := exists_eq_mul_of_mem_rep hy
    obtain ⟨n, rfl⟩ := exists_eq_mul_of_mem_rep hz
    have hmn := Int.add_one_le_of_lt (Int.cast_lt.mp (lt_of_mul_lt_mul_right hlt (two_zpow_pos _).le))
    have hle : ((m + 1 : ℤ) : ℚ) * 2 ^ (-127 - (23 : ℕ) : ℤ) ≤ n * 2 ^ (-127 - (23 : ℕ) : ℤ) :=
      mul_le_mul_of_nonneg_right (Int.cast_le.mpr hmn) (two_zpow_pos _).le
    rw [Int.cast_add, add_mul, Int.cast_one, one_mul] at hle
    exact hle
  have hval : (d.add ⟨-1, -400⟩).val = d.val - 2 ^ (-400 : ℤ) := by
    rw [Dy.val_add, Dy.val_mk (-1), Int.cast_neg, Int.cast_one, neg_one_mul, sub_eq_add_neg]
  have hsmall : (2 : ℚ) ^ (-400 : ℤ) < 2 ^ (-150 : ℤ) := zpow_lt_zpow_right₀ one_lt_two (by decide)
  have hpos := two_zpow_pos (-400)
  refine ⟨?_, by rw [hval]; linarith, fun z hz hlt => by rw [hval]; linarith [hstep hz hd hlt]⟩
  rw [ne_eq, Dy.m_eq_zero_iff, hval]
  obtain hneg | hgt := lt_or_gt_of_ne (mt d.m_eq_zero_iff.mpr h)
  · linarith
  · linarith [hstep (zero_mem_rep 23) hd hgt]

theorem IsNudged.isProductFloor {d n : Dy} (h : IsNudged d n) {lo : Point} (hlo : (bracket 23 n).below = some lo) :
    IsProductFloor d.val lo := by
  have hbelow := (isBracket_bracket (by decide : 23 ≤ 31) n).below
  rw [hlo] at hbelow
  exact ⟨hbelow.1, hbelow.2.1.2.trans h.le, fun z hz hlt => hbelow.2.2 ⟨hz, h.le_of_lt z hz hlt⟩⟩

/-- Zero is the lower neighbour of a small positive number only, whose upper neighbour is 2^-127. -/
theorem bracket_above_of_below_zero {p : ℕ} (hp : p ≤ 31) {d : Dy} (h0 : d.m ≠ 0)
    (h : (bracket p d).below = some .zero) :
    (bracket p d).above = some (.pat (packFloat p (2 ^ p) (-127))) := by
  have hbr := isBracket_bracket hp d
  have hbelow := hbr.below
  rw [h] at hbelow
  obtain ⟨-, hmem, hgreatest⟩ := hbelow
  rw [Point.val_zero] at hmem hgreatest
  have hpos : 0 < d.val := lt_of_le_of_ne hmem.2 (Ne.symm (mt d.m_eq_zero_iff.mpr h0))
  have hf := isFloat_extreme (normal_two_pow p) (.inr rfl)
  have hval : floatVal p (2 ^ p) (-127) = 2 ^ (-127 : ℤ) := floatVal_two_pow p _
  have hsmall : d.val ≤ floatVal p (2 ^ p) (-127) := le_of_not_ge fun hge =>
    (hval ▸ two_zpow_pos (-127)).not_ge (hgreatest ⟨hf.mem_rep, hge⟩)
  exact hbr.above.unique hp (fun _ h => h.1) (fun _ _ => IsLeast.unique)
    (isPointOf_pat hp hf ⟨⟨hf.mem_rep, hsmall⟩, fun y hy => hval ▸ le_of_mem_rep_of_pos hy.1 (hpos.trans_le hy.2)⟩)

/-- A number below all single-format numbers has -2^128 as its upper neighbour. -/
theorem val_above_of_below_none {d : Dy} (h : (bracket 23 d).below = none) {hi : Point}
    (hhi : (bracket 23 d).above = some hi) :
    hi.val = -2 ^ (128 : ℤ) := by
  have hbr := isBracket_bracket (by decide : 23 ≤ 31) d
  have hbelow := hbr.below
  have habove := hbr.above
  rw [h] at hbelow
  rw [hhi] at habove
  have hle : d.val ≤ -2 ^ (128 : ℤ) := le_of_not_ge fun hge => hbelow _ ⟨neg_two_zpow_mem_rep, hge⟩
  exact le_antisymm (habove.2.2 ⟨neg_two_zpow_mem_rep, hle⟩) (le_of_mem_rep habove.2.1.1)

theorem isNudged_nudge (a b : Ext) {d : Dy} (h : d.m ≠ 0) : IsNudged d (nudge a b d) := by
  rw [nudge]
  split
  next hcond =>
    exact isNudged_sub h ((isBracket_bracket (by decide) d).mem_of_exact (Bool.and_eq_true_iff.mp hcond).1)
  next => exact isNudged_self h

/-- A product that P1 does not fix climbs from a single-format number, or is -2^128 where there is none below it. -/
theorem chooseMul_value (a b : Ext) {d : Dy} (h : d.m ≠ 0) :
    (∃ lo, IsProductFloor d.val lo ∧ valF (chooseMul a b d) = (productClimb a b d lo).val) ∨
      d.val ≤ -2 ^ (128 : ℤ) ∧ valF (chooseMul a b d) = -2 ^ (128 : ℤ) := by
  have hn := isNudged_nudge a b h
  have hbr := isBracket_bracket (by decide : 23 ≤ 31) (nudge a b d)
  have hnudge : (if (bracket 23 d).exact && Config.floatBelow a b then bracket 23 (d.add ⟨-1, -400⟩) else bracket 23 d) =
      bracket 23 (nudge a b d) := (apply_ite ..).symm
  simp only [chooseMul, hnudge]
  match hbelow : (bracket 23 (nudge a b d)).below, habove : (bracket 23 (nudge a b d)).above with
  | some (.pat x), _ => exact .inl ⟨_, hn.isProductFloor hbelow, valF_realise ..⟩
  | some .zero, none => exact absurd (bracket_above_of_below_zero (by decide) hn.ne_zero hbelow) (by simp [habove])
  | some .zero, some hi =>
    obtain rfl := Option.some_inj.mp (habove.symm.trans (bracket_above_of_below_zero (by decide) hn.ne_zero hbelow))
    exact .inl ⟨_, hn.isProductFloor hbelow, valF_realise ..⟩
  | none, some hi =>
    have hnone := hbr.below
    rw [hbelow] at hnone
    exact .inr ⟨not_lt.mp fun hlt => hnone _ ⟨neg_two_zpow_mem_rep, hn.le_of_lt _ neg_two_zpow_mem_rep hlt⟩,
      (valF_realise ..).trans (val_above_of_below_none hbelow habove)⟩
  | none, none => exact absurd habove (hbr.above_ne_none hbelow)

theorem le_valF (x : Ext) : -2 ^ (128 : ℤ) ≤ valF x := le_of_mem_rep (valF_mem_rep x)

theorem chooseMul_le {a b a' b' : Ext} {d d' : Dy} (h : d.m ≠ 0) (h' : d'.m ≠ 0) (hlt : d.val < d'.val) :
    valF (chooseMul a b d) ≤ valF (chooseMul a' b' d') := by
  obtain ⟨lo, hlo, hval⟩ | ⟨-, hval⟩ := chooseMul_value a b h
  · obtain ⟨lo', hlo', hval'⟩ | ⟨hle, -⟩ := chooseMul_value a' b' h'
    · rw [hval, hval']
      exact hlo.productClimb_mono hlo' hlt a b a' b'
    · exact absurd ((le_of_mem_rep hlo.mem_rep).trans hlo.le) (hlt.trans_le hle).not_ge
  · exact hval ▸ le_valF _

theorem FixedProduct.le_chooseMul {f : ℚ} (hf : FixedProduct f) {a b : Ext} {d : Dy} (h : d.m ≠ 0) (hlt : f < d.val) :
    f ≤ valF (chooseMul a b d) := by
  obtain ⟨lo, hlo, hval⟩ | ⟨hle, -⟩ := chooseMul_value a b h
  · exact hval ▸ hlo.fixed_le_productClimb hf hlt a b
  · exact absurd (le_of_mem_rep hf.mem_rep) (hlt.trans_le hle).not_ge

theorem FixedProduct.chooseMul_le {f : ℚ} (hf : FixedProduct f) {a b : Ext} {d : Dy} (h : d.m ≠ 0) (hlt : d.val < f) :
    valF (chooseMul a b d) ≤ f := by
  obtain ⟨lo, hlo, hval⟩ | ⟨-, hval⟩ := chooseMul_value a b h
  · exact hval ▸ hlo.productClimb_le_fixed hf hlt a b
  · exact hval ▸ le_of_mem_rep hf.mem_rep

/-- The product is exact where P1 fixes it or a factor is zero (R277), else it is chosen. -/
theorem fmul_value (a b : Ext) : FixedProduct (valF a * valF b) ∧ valF (fmul a b).value = valF a * valF b ∨
    ((dyOf a).mul (dyOf b)).m ≠ 0 ∧ (fmul a b).value = chooseMul a b ((dyOf a).mul (dyOf b)) := by
  have hval : ((dyOf a).mul (dyOf b)).val = valF a * valF b := by rw [Dy.val_mul, val_dyOf, val_dyOf]
  have hbr := isBracket_bracket (le_refl 31) ((dyOf a).mul (dyOf b))
  rw [hval] at hbr
  have hbelow := hbr.below
  rw [fmul]
  split
  next hz =>
    have h0 : valF a * valF b = 0 := by
      obtain hz | hz := Bool.or_eq_true_iff.mp hz
      · rw [valF_of_zero hz, zero_mul]
      · rw [valF_of_zero hz, mul_zero]
    rw [h0, exactResult, valF_realise, Point.val_zero]
    exact .inl ⟨fixedProduct_zero, rfl⟩
  next hz =>
    dsimp only
    split
    next pt hexact hpt =>
      obtain ⟨hab, hexact⟩ := Bool.and_eq_true_iff.mp hexact
      obtain ⟨ha, hb⟩ := Bool.and_eq_true_iff.mp hab
      have hmem := hbr.mem_of_exact hexact
      rw [hpt] at hbelow
      rw [exactResult, valF_realise]
      exact .inl ⟨fixedProduct_mul (valF_mem_rep_of_isSingle ha) (valF_mem_rep_of_isSingle hb) hmem,
        le_antisymm hbelow.2.1.2 (hbelow.2.2 ⟨hmem, le_rfl⟩)⟩
    next =>
      simp only [Bool.or_eq_true, not_or, Bool.not_eq_true] at hz
      rw [ne_eq, Dy.m_eq_zero_iff, hval, valF_of_not_zero hz.1, valF_of_not_zero hz.2]
      exact .inr ⟨mul_ne_zero (floatVal_ne_zero (normal_mantInt a) _) (floatVal_ne_zero (normal_mantInt b) _), rfl⟩

/-- R166 P5 for products. -/
theorem fmul_le {a b c d : Ext} (h : valF a * valF b < valF c * valF d) :
    valF (fmul a b).value ≤ valF (fmul c d).value := by
  have hval (a b : Ext) : valF a * valF b = ((dyOf a).mul (dyOf b)).val := by rw [Dy.val_mul, val_dyOf, val_dyOf]
  obtain ⟨hfix, heq⟩ | ⟨hne, heq⟩ := fmul_value a b <;> obtain ⟨hfix', heq'⟩ | ⟨hne', heq'⟩ := fmul_value c d <;>
    rw [heq, heq']
  · exact h.le
  · exact hfix.le_chooseMul hne' (hval c d ▸ h)
  · exact hfix'.chooseMul_le hne (hval a b ▸ h)
  · exact chooseMul_le hne hne' (hval a b ▸ hval c d ▸ h)

end Sys2Proof.Machine
end

section
/-!
FIX and FLOAT (R341, R342): FIX of an integer is that integer, of a fraction one of the two integers beside it as their cut
says; FLOAT is exact, as every 32-bit integer is an extended number.
-/
namespace Sys2Proof.Machine

/-! ### FIX -/

theorem ffix_of_floor {a : Ext} {n : ℤ} {whole : Bool} (h : (dyOf a).floor = (n, whole)) : ffix a =
    if -2 ^ 31 ≤ n ∧ (n < 2 ^ 31 - 1 ∨ n = 2 ^ 31 - 1 ∧ whole = true) then
      ⟨BitVec.ofInt 32 (if whole || !fixesUp n (dyOf a) then n else n + 1), false⟩
    else ⟨Config.fixBits a, true⟩ := by
  rw [ffix, h]

theorem floor_dyOf_of_int {a : Ext} {z : ℤ} (h : valF a = z) : (dyOf a).floor = (z, true) := by
  have hfst := Dy.floor_fst (dyOf a)
  have hsnd := Dy.floor_snd (dyOf a)
  rw [val_dyOf, h, Int.floor_intCast] at hfst hsnd
  exact Prod.ext hfst (hsnd.mpr rfl)

theorem floor_dyOf_of_fraction {a : Ext} {z : ℤ} (hlo : (z : ℚ) < valF a) (hhi : valF a < z + 1) :
    (dyOf a).floor = (z, false) := by
  have hfloor : ⌊valF a⌋ = z := Int.floor_eq_iff.mpr ⟨hlo.le, hhi⟩
  have hfst := Dy.floor_fst (dyOf a)
  have hsnd := Dy.floor_snd (dyOf a)
  rw [val_dyOf, hfloor] at hfst hsnd
  exact Prod.ext hfst (Bool.eq_false_iff.mpr fun h => hlo.ne (hsnd.mp h))

/-- A number is an integer or lies strictly between two. -/
theorem eq_floor_or_between (v : ℚ) : v = ⌊v⌋ ∨ (⌊v⌋ : ℚ) < v ∧ v < ⌊v⌋ + 1 :=
  (Int.floor_le v).eq_or_lt.imp Eq.symm fun hlt => ⟨hlt, Int.lt_floor_add_one v⟩

theorem ffix_of_int {a : Ext} {z : ℤ} (h : valF a = z) (hlo : -2147483648 ≤ z) (hhi : z ≤ 2147483647) :
    ffix a = ⟨BitVec.ofInt 32 z, false⟩ := by
  have hle : z ≤ 2 ^ 31 - 1 := hhi
  rw [ffix_of_floor (floor_dyOf_of_int h), if_pos ⟨hlo, hle.lt_or_eq.imp_right (⟨·, rfl⟩)⟩, Bool.true_or, if_pos rfl]

theorem ffix_of_fraction {a : Ext} {z : ℤ} (h1 : (z : ℚ) < valF a) (h2 : valF a < z + 1) (hlo : -2147483648 ≤ z)
    (hhi : z + 1 ≤ 2147483647) : ffix a = ⟨BitVec.ofInt 32 (if fixesUp z (dyOf a) then z + 1 else z), false⟩ := by
  rw [ffix_of_floor (floor_dyOf_of_fraction h1 h2), if_pos ⟨hlo, by omega⟩]
  cases fixesUp z (dyOf a) with
  | true => rfl
  | false => rfl

theorem ffix_v_of_out_of_range {a : Ext} (h : valF a < -2147483648 ∨ 2147483647 < valF a) : (ffix a).v = true := by
  obtain hint | ⟨hlo, hhi⟩ := eq_floor_or_between (valF a)
  · rw [ffix_of_floor (floor_dyOf_of_int hint), if_neg]
    rw [hint] at h
    norm_cast at h
    omega
  · rw [ffix_of_floor (floor_dyOf_of_fraction hlo hhi), if_neg]
    obtain h | h := h
    · have hlt : (⌊valF a⌋ : ℚ) < (-2147483648 : ℤ) := by push_cast; exact hlo.trans h
      rw [Int.cast_lt] at hlt
      omega
    · have hlt : ((2147483647 : ℤ) : ℚ) < (⌊valF a⌋ + 1 : ℤ) := by push_cast; exact h.trans hhi
      rw [Int.cast_lt] at hlt
      rintro ⟨-, hn | ⟨-, ⟨⟩⟩⟩
      omega

theorem fixesUp_of_le {n : ℤ} {d d' : Dy} (h : d.val ≤ d'.val) (hd : fixesUp n d = true) : fixesUp n d' = true := by
  simp only [fixesUp, Bool.not_eq_true', ← Bool.not_eq_true, Dy.lt_iff, not_lt] at hd ⊢
  exact hd.trans h

theorem toInt_ofInt_of_range {z : ℤ} (hlo : -2147483648 ≤ z) (hhi : z ≤ 2147483647) :
    (BitVec.ofInt 32 z).toInt = z := by
  rw [BitVec.toInt_ofInt, Int.bmod_eq_of_le (by omega) (by omega)]

/-- The integer of FIX in range. -/
theorem toInt_ffix {a : Ext} (hlo : -2147483648 ≤ valF a) (hhi : valF a ≤ 2147483647) :
    (∃ z : ℤ, valF a = z ∧ (ffix a).value.toInt = z) ∨
      ∃ z : ℤ, (z : ℚ) < valF a ∧ valF a < z + 1 ∧ (ffix a).value.toInt = if fixesUp z (dyOf a) then z + 1 else z := by
  have hfloor : -2147483648 ≤ ⌊valF a⌋ := Int.le_floor.mpr (by exact_mod_cast hlo)
  obtain hint | ⟨h1, h2⟩ := eq_floor_or_between (valF a)
  · have hle : ⌊valF a⌋ ≤ 2147483647 := Int.floor_le_iff.mpr (by push_cast; linarith)
    exact .inl ⟨_, hint, by rw [ffix_of_int hint hfloor hle, toInt_ofInt_of_range hfloor hle]⟩
  · have hlt : ⌊valF a⌋ < 2147483647 := by
      rw [← Int.cast_lt (R := ℚ)]
      exact h1.trans_le (by exact_mod_cast hhi)
    refine .inr ⟨_, h1, h2, ?_⟩
    rw [ffix_of_fraction h1 h2 hfloor hlt]
    exact toInt_ofInt_of_range (by split <;> omega) (by split <;> omega)

/-- R166 P5 for FIX. -/
theorem ffix_le {a c : Ext} (h : valF a < valF c) (hlo : -2147483648 ≤ valF a) (hhi : valF c ≤ 2147483647) :
    (ffix a).value.toInt ≤ (ffix c).value.toInt := by
  have hlt {m n : ℤ} (h1 : (m : ℚ) < n) : m < n := Int.cast_lt.mp h1
  obtain ⟨m, hm, ha⟩ | ⟨m, hm, hm', ha⟩ := toInt_ffix hlo (h.le.trans hhi)
  · obtain ⟨n, hn, hc⟩ | ⟨n, hn, hn', hc⟩ := toInt_ffix (hlo.trans h.le) hhi
    · have := hlt (hm ▸ hn ▸ h)
      omega
    · have hmn : m < n + 1 := hlt (by push_cast; exact (hm ▸ h).trans hn')
      split at hc <;> omega
  · obtain ⟨n, hn, hc⟩ | ⟨n, hn, hn', hc⟩ := toInt_ffix (hlo.trans h.le) hhi
    · have hmn : m < n := hlt (hm.trans (hn ▸ h))
      split at ha <;> omega
    · have hmn : m < n + 1 := hlt (by push_cast; exact (hm.trans h).trans hn')
      obtain rfl | hne := eq_or_ne m n
      · -- between the same two integers, the cut decides
        have hup := fixesUp_of_le (n := m) (d := dyOf a) (d' := dyOf c) (by rw [val_dyOf, val_dyOf]; exact h.le)
        rw [ha, hc]
        split
        next hfix => rw [if_pos (hup hfix)]
        next => split <;> omega
      · split at ha <;> split at hc <;> omega

/-! ### FLOAT -/

theorem InBinade.abs_bounds {e : ℤ} {v : ℚ} (h : InBinade e v) : 2 ^ e ≤ |v| ∧ |v| ≤ 2 ^ (e + 1) := by
  have hpos := two_zpow_pos e
  obtain ⟨h1, h2⟩ | ⟨h1, h2⟩ := h
  · rw [abs_of_pos (hpos.trans_le h1)]
    exact ⟨h1, h2.le⟩
  · rw [abs_of_neg (h2.trans (neg_lt_zero.mpr hpos))]
    exact ⟨le_neg.mp h2.le, neg_le.mp h1⟩

/-- An integer of at most 32 bits has all its bits in the extended mantissa. -/
theorem intCast_mem_rep {z : ℤ} (h : |z| ≤ 2 ^ 31) : (z : ℚ) ∈ Rep 31 := by
  obtain rfl | h0 := eq_or_ne z 0
  · exact Int.cast_zero (R := ℚ) ▸ zero_mem_rep 31
  have hbin : InBinade (normExp ⟨z, 0⟩) z := by simpa using inBinade_normExp ⟨z, 0⟩ h0
  generalize normExp ⟨z, 0⟩ = e at hbin
  obtain ⟨hlow, hhigh⟩ := hbin.abs_bounds
  have hone : (2 : ℚ) ^ (0 : ℤ) ≤ |(z : ℚ)| := by exact_mod_cast Int.one_le_abs h0
  have hbig : |(z : ℚ)| ≤ 2 ^ (31 : ℤ) := by exact_mod_cast h
  have he0 : 0 ≤ e + 1 := (zpow_le_zpow_iff_right₀ one_lt_two).mp (hone.trans hhigh)
  have he : e ≤ 31 := (zpow_le_zpow_iff_right₀ one_lt_two).mp (hlow.trans hbig)
  have hval : floatVal 31 (z * 2 ^ (31 - e).toNat) e = z := by
    rw [floatVal_eq_iff, Int.cast_mul, Int.cast_pow, Int.cast_ofNat, ← zpow_natCast, Int.toNat_of_nonneg (by omega)]
    rfl
  rw [← hval] at hbin ⊢
  exact IsFloat.mem_rep ⟨normal_iff_inBinade.mpr hbin, by omega, by omega⟩

theorem valF_ffloat (i : Word) : valF (ffloat i) = i.toInt := by
  have hrange : |i.toInt| ≤ 2 ^ 31 := abs_le.mpr ⟨i.le_toInt, i.toInt_lt.le⟩
  have hval : Dy.val ⟨i.toInt, 0⟩ = i.toInt := by rw [Dy.val_mk, zpow_zero, mul_one]
  have hbelow := (isBracket_bracket (le_refl 31) ⟨i.toInt, 0⟩).below
  rw [hval] at hbelow
  have hmem : (i.toInt : ℚ) ∈ repUpTo 31 i.toInt := ⟨intCast_mem_rep hrange, le_rfl⟩
  rw [ffloat]
  match h : (bracket 31 ⟨i.toInt, 0⟩).below with
  | none => rw [h] at hbelow; exact absurd hmem (hbelow _)
  | some .zero =>
    rw [h] at hbelow
    rw [valF_of_zero (by decide), ← Point.val_zero]
    exact le_antisymm hbelow.2.1.2 (hbelow.2.2 hmem)
  | some (.pat x) =>
    rw [h] at hbelow
    rw [← Point.val_pat]
    exact le_antisymm hbelow.2.1.2 (hbelow.2.2 hmem)

/-! ### The obligations -/

/-- Settles O34: for sums, differences, negations and absolute values by the rounding to an extended neighbour, for products
by the climb from the single-format number below, for RND and FIX by the cut between two neighbours. -/
theorem floatResultsRiseWithTheExactResult : Obligations.FloatResultsRiseWithTheExactResult := by
  unfold Obligations.FloatResultsRiseWithTheExactResult
  exact ⟨fun _ _ _ _ => ⟨fadd_le, fsub_le, fmul_le⟩, fun _ _ ha hc => ⟨fneg_le ha hc, fabs_le ha hc⟩,
    fun _ _ h => ⟨fun ⟨w, hw⟩ => frnd_le (valF_widen_mem_rep w) hw h, ffix_le h⟩⟩

/-- Settles O35: FLOAT and FIX by their exact values; RND is on the same side of every single-format value as its
operand. -/
theorem conversionsAndRounding : Obligations.ConversionsAndRounding := by
  unfold Obligations.ConversionsAndRounding
  refine ⟨⟨valF_ffloat, fun x => ⟨fun z => ffix_of_int, fun z h1 h2 hlo hhi => ?_, ffix_v_of_out_of_range⟩⟩,
    fun x => ⟨frnd_of_isSingle, ?_, ?_⟩⟩
  · rw [ffix_of_fraction h1 h2 hlo hhi]
    split
    · exact .inr rfl
    · exact .inl rfl
  · rintro ⟨w, hw⟩
    cases h : isSingle x with
    | true => exact .inr rfl
    | false => exact .inl (low8_frnd h (valF_widen_mem_rep w) hw)
  · rintro ⟨w, hw⟩ w'
    have hside := frnd_roundsTo (valF_widen_mem_rep w) hw _ (valF_widen_mem_rep w')
    exact ⟨fun hbetween => (hside.1 hbetween.2.le).not_gt hbetween.1, fun hbetween => (hside.2 hbetween.1.le).not_gt hbetween.2⟩

end Sys2Proof.Machine
end

section
/-!
SWI (R382, D29).
-/
namespace Sys2Proof.Machine

theorem exec_swi (s : State) : exec .swi s = execSwi s := rfl

/-- Settles O48: `execSwi` looks at no part of the state, so there is one path, and it refuses. -/
theorem swiIsRefused : Obligations.SwiIsRefused := by
  unfold Obligations.SwiIsRefused
  intro s
  calc exec .swi s
      = execSwi s := exec_swi s
    _ = .refused .softwareInterrupt := toOutcome_refuse .softwareInterrupt

end Sys2Proof.Machine
end

section
/-!
The interlocked instructions and XF0 (R402 to R409). Each of LDFI, LDII, STFI and STII is its operand's address and then an
interlocked access: off the bus the access of LDF, LDI, STF or STI, on the bus the same access after XF0 is driven, or a
wait. Only the driving moves XF0 and writes its history; the address, the access and the end of the instruction do not.
-/
namespace Sys2Proof.Machine

theorem onBus_iff (a : Addr) (s : State) :
    onBus a s = true ↔ s.kindAt a = .externalStrb ∨ s.kindAt a = .externalMstrb ∨ s.kindAt a = .externalIostrb ∨
      s.kindAt a = .peripheral := by
  unfold onBus
  cases s.kindAt a <;> decide

/-! ### The lines after an operation -/

/-- XF0 and the history of the lines are the same in both states. -/
def SameLines (s t : State) : Prop := t.xf0 = s.xf0 ∧ t.trace = s.trace

theorem SameLines.trans {s t u : State} (h : SameLines s t) (h' : SameLines t u) : SameLines s u :=
  ⟨h'.1.trans h.1, h'.2.trans h.2⟩

theorem SameLines.driveXf0 {s t : State} (h : SameLines s t) (level : Bool) :
    SameLines (s.driveXf0 level) (t.driveXf0 level) :=
  ⟨rfl, congrArg (LineEvent.xf0 level :: ·) h.2⟩

theorem sequential_sameLines (s : State) : SameLines s (sequential s) := by
  rw [sequential_frame]
  exact ⟨rfl, rfl⟩

theorem ea_sameLines {m : MemOp} {s s1 : State} {a : Addr} (h : ea m s = .ok (a, s1)) : SameLines s s1 := by
  obtain ⟨ar, d, rfl, -⟩ := ea_frame h
  exact ⟨rfl, rfl⟩

/-- The operation, if it completes, ends with the lines of s. -/
def EndsWithLines (s : State) (x : Res State) : Prop := ∀ t, x = .ok t → SameLines s t

theorem EndsWithLines.of_sameLines {s s' : State} {x : Res State} (h : EndsWithLines s' x) (hs : SameLines s s') :
    EndsWithLines s x := fun t ht => hs.trans (h t ht)

theorem EndsWithLines.after {α : Type} {s : State} {x : Res α} {f : α → Res State} (h : ∀ v, EndsWithLines s (f v)) :
    EndsWithLines s (x >>= f) := by
  intro t ht
  obtain ⟨v, -, hv⟩ := bind_ok.mp ht
  exact h v t hv

theorem finishLdfi_lines (a : Addr) (n : Rn) (s : State) : EndsWithLines s (finishLdfi a n s) := by
  intro t ht
  obtain ⟨⟨w, s1⟩, hread, hput⟩ := bind_ok.mp ht
  obtain ⟨d, rfl⟩ := memRead_frame hread
  cases hput
  exact ⟨rfl, rfl⟩

theorem finishLdii_lines (a : Addr) (r : Reg) (s : State) : EndsWithLines s (finishLdii a r s) := by
  intro t ht
  obtain ⟨⟨w, s1⟩, hread, hput⟩ := bind_ok.mp ht
  obtain ⟨d, rfl⟩ := memRead_frame hread
  rw [putInt_frame hput]
  exact ⟨rfl, rfl⟩

theorem memWrite_lines (a : Addr) (v : Word) (s : State) : EndsWithLines s (memWrite a v s) := by
  intro t ht
  obtain ⟨-, -, rfl⟩ := memWrite_ok.mp ht
  exact ⟨rfl, rfl⟩

/-! ### Interlocked accesses -/

/-- An access, and the end of the instruction. -/
def complete (access : Res State) : Res State := access >>= fun s => .ok (sequential s)

/-- What an interlocked instruction does at a known address: off the bus the plain access; on the bus the access with XF0
driven, or else the wait. -/
def interlocked (bus go : Bool) (plain driven : Res State) (wait : State) : Res State :=
  if bus then if go then complete driven else .ok wait else complete plain

@[simp] theorem interlocked_offBus (go : Bool) (plain driven : Res State) (wait : State) :
    interlocked false go plain driven wait = complete plain := rfl

theorem EndsWithLines.complete {s : State} {x : Res State} (h : EndsWithLines s x) : EndsWithLines s (complete x) := by
  intro t ht
  obtain ⟨u, hu, hseq⟩ := bind_ok.mp ht
  cases hseq
  exact (h u hu).trans (sequential_sameLines u)

/-- The lines of an instruction that drives XF0 to a level when its operand is on the bus, and only then. -/
def drivenOnBus (level : Bool) (a : Addr) (s : State) : State := if onBus a s then s.driveXf0 level else s

theorem interlocked_lines {level : Bool} {a : Addr} {s s1 wait : State} {go : Bool} {plain driven : Res State}
    (hea : SameLines s s1) (hplain : EndsWithLines s1 plain) (hdriven : EndsWithLines (s1.driveXf0 level) driven)
    (hwait : SameLines (s1.driveXf0 level) wait) :
    EndsWithLines (drivenOnBus level a s) (interlocked (onBus a s) go plain driven wait) := by
  unfold drivenOnBus
  cases onBus a s with
  | false => exact hplain.complete.of_sameLines hea
  | true =>
    refine EndsWithLines.of_sameLines ?_ (hea.driveXf0 level)
    cases go with
    | true => exact hdriven.complete
    | false =>
      rintro t ⟨⟩
      exact hwait

/-! ### The instructions at a known address -/

section
variable {m : MemOp} {s s1 : State} {a : Addr} (h : ea m s = .ok (a, s1))
include h

theorem exec_ldfi (n : Rn) : exec (.ldfi m n) s = toOutcome (interlocked (onBus a s) (acknowledged a s)
    (finishLdfi a n s1) (finishLdfi a n (s1.driveXf0 false).acquire)
    { s1.driveXf0 false with waiting := some (.ldfi a n) }) := by
  change execLdfi m n s = _
  rw [execLdfi, h]
  rfl

theorem exec_ldii (r : Reg) : exec (.ldii m r) s = toOutcome (do
    guardDest (memClobbers m r)
    need (namedReg r) .unnamedRegister
    interlocked (onBus a s) (acknowledged a s) (finishLdii a r s1) (finishLdii a r (s1.driveXf0 false).acquire)
      { s1.driveXf0 false with waiting := some (.ldii a r) }) := by
  change execLdii m r s = _
  rw [execLdii, h]
  rfl

theorem storeInterlocked_eq (v : Word) : storeInterlocked v m s = interlocked (onBus a s) (ready a s) (memWrite a v s1)
    (memWrite a v (s1.driveXf0 true)) { s1.driveXf0 true with waiting := some (.store a v) } := by
  rw [storeInterlocked, h]
  rfl

theorem loadMem_eq : loadMem m s = memRead a s1 := by
  rw [loadMem, h]
  rfl

theorem exec_ldf_mem (n : Rn) : exec (.ldf (.mem m) n) s = toOutcome (complete (finishLdfi a n s1)) := by
  change execLdf (.mem m) n s = _
  rw [execLdf, srcFlt, loadMem_eq h, finishLdfi]
  cases memRead a s1 <;> rfl

theorem exec_ldi_mem (r : Reg) : exec (.ldi (.mem m) r) s = toOutcome (do
    guardDest (memClobbers m r)
    complete (finishLdii a r s1)) := by
  change execLdi (.mem m) r s = _
  rw [execLdi, intUnary, srcInt, loadMem_eq h, finishLdii]
  cases memRead a s1 <;> rfl

theorem storeAt_eq (v : Word) : storeAt v m s = complete (memWrite a v s1) := by
  rw [storeAt, h]
  rfl

/-! ### Off the bus: the plain instruction -/

theorem exec_ldfi_offBus (hbus : onBus a s = false) (n : Rn) : exec (.ldfi m n) s = exec (.ldf (.mem m) n) s := by
  rw [exec_ldfi h, exec_ldf_mem h, hbus, interlocked_offBus]

theorem exec_ldii_offBus (hbus : onBus a s = false) {r : Reg} (hr : namedReg r = true) :
    exec (.ldii m r) s = exec (.ldi (.mem m) r) s := by
  rw [exec_ldii h, exec_ldi_mem h, hbus, hr]
  rfl

theorem storeInterlocked_offBus (hbus : onBus a s = false) (v : Word) : storeInterlocked v m s = storeAt v m s := by
  rw [storeInterlocked_eq h, storeAt_eq h, hbus, interlocked_offBus]

theorem exec_stfi_offBus (hbus : onBus a s = false) (n : Rn) : exec (.stfi n m) s = exec (.stf n m) s :=
  congrArg toOutcome (storeInterlocked_offBus h hbus _)

theorem exec_stii_offBus (hbus : onBus a s = false) (r : Reg) : exec (.stii r m) s = exec (.sti r m) s :=
  congrArg (fun store => toOutcome (readInt r s >>= store)) (funext (storeInterlocked_offBus h hbus))

/-! ### The lines of the four instructions -/

theorem exec_ldfi_lines {n : Rn} {t : State} (ht : exec (.ldfi m n) s = .next t) :
    SameLines (drivenOnBus false a s) t := by
  rw [exec_ldfi h, toOutcome_next] at ht
  refine interlocked_lines (ea_sameLines h) (finishLdfi_lines a n s1)
    (finishLdfi_lines a n (s1.driveXf0 false).acquire) ?_ t ht
  exact ⟨rfl, rfl⟩

theorem exec_ldii_lines {r : Reg} {t : State} (ht : exec (.ldii m r) s = .next t) :
    SameLines (drivenOnBus false a s) t := by
  rw [exec_ldii h, toOutcome_next] at ht
  refine EndsWithLines.after (fun _ => EndsWithLines.after fun _ => ?_) t ht
  exact interlocked_lines (ea_sameLines h) (finishLdii_lines a r s1)
    (finishLdii_lines a r (s1.driveXf0 false).acquire) ⟨rfl, rfl⟩

theorem storeInterlocked_lines (v : Word) : EndsWithLines (drivenOnBus true a s) (storeInterlocked v m s) := by
  rw [storeInterlocked_eq h]
  exact interlocked_lines (ea_sameLines h) (memWrite_lines a v s1) (memWrite_lines a v (s1.driveXf0 true)) ⟨rfl, rfl⟩

theorem exec_stfi_lines {n : Rn} {t : State} (ht : exec (.stfi n m) s = .next t) :
    SameLines (drivenOnBus true a s) t :=
  storeInterlocked_lines h _ t (toOutcome_next.mp ht)

theorem exec_stii_lines {r : Reg} {t : State} (ht : exec (.stii r m) s = .next t) :
    SameLines (drivenOnBus true a s) t :=
  EndsWithLines.after (storeInterlocked_lines h) t (toOutcome_next.mp ht)

end

theorem SameLines.of_offBus {level : Bool} {a : Addr} {s t : State} (h : SameLines (drivenOnBus level a s) t)
    (hbus : onBus a s = false) : SameLines s t := by
  rwa [drivenOnBus, hbus] at h

theorem SameLines.xf0_of_onBus {level : Bool} {a : Addr} {s t : State} (h : SameLines (drivenOnBus level a s) t)
    (hbus : onBus a s = true) : t.xf0 = level := by
  rw [drivenOnBus, hbus] at h
  exact h.1

/-! ### SIGI -/

/-- Going on with SIGI never takes a level out of the history. -/
theorem mem_trace_of_awaitSigi {s t : State} {e : LineEvent} (h : awaitSigi s = .ok t) (he : e ∈ s.trace) :
    e ∈ t.trace := by
  unfold awaitSigi at h
  split at h
  · split at h
    · exact absurd h (refuse_ne_ok _ _)
    · cases h
      exact he
  · cases h
    rw [(sequential_sameLines _).2]
    exact List.mem_cons_of_mem _ he

theorem exec_sigi_drives {s t : State} (h : exec .sigi s = .next t) : LineEvent.xf0 false ∈ t.trace := by
  obtain ⟨-, hawait⟩ := guardControl_bind_ok.mp (toOutcome_next.mp h)
  exact mem_trace_of_awaitSigi hawait List.mem_cons_self

/-! ### The obligation -/

/-- Settles O53: off the bus an interlocked access is the plain one, and on it the access and the wait both
keep the level that the instruction has driven. -/
theorem interlockedOffTheBusArePlain : Obligations.InterlockedOffTheBusArePlain := by
  unfold Obligations.InterlockedOffTheBusArePlain
  intro s s1 m a h
  refine ⟨onBus_iff a s,
    fun hbus => ⟨exec_ldfi_offBus h hbus, fun _ => exec_ldii_offBus h hbus, exec_stfi_offBus h hbus,
      exec_stii_offBus h hbus, ?_⟩,
    fun hbus => ⟨fun _ _ ht => (exec_ldfi_lines h ht).xf0_of_onBus hbus,
      fun _ _ ht => (exec_ldii_lines h ht).xf0_of_onBus hbus, fun _ _ ht => (exec_stfi_lines h ht).xf0_of_onBus hbus,
      fun _ _ ht => (exec_stii_lines h ht).xf0_of_onBus hbus⟩,
    fun _ => exec_sigi_drives⟩
  rintro i t (⟨n, rfl⟩ | ⟨r, rfl⟩ | ⟨n, rfl⟩ | ⟨r, rfl⟩) ht
  · exact (exec_ldfi_lines h ht).of_offBus hbus
  · exact (exec_ldii_lines h ht).of_offBus hbus
  · exact (exec_stfi_lines h ht).of_offBus hbus
  · exact (exec_stii_lines h ht).of_offBus hbus

end Sys2Proof.Machine
end

section
/-!
The binary annex (R110 to R121): the fields of each word layout, and that every field is read back as what was put there.
-/
namespace Sys2Proof

/-! ### The fields of the word layouts -/

@[simp] theorem packG_fields (op : BitVec 6) (g : BitVec 2) (d : BitVec 5) (s : BitVec 16) :
    (packG op g d s).extractLsb' 29 3 = 0#3 ∧ (packG op g d s).extractLsb' 23 6 = op ∧
    (packG op g d s).extractLsb' 21 2 = g ∧ (packG op g d s).extractLsb' 16 5 = d ∧
    (packG op g d s).extractLsb' 0 16 = s := by
  have h : packG op g d s = BitVec.cast rfl (0b000#3 ++ op ++ g ++ d ++ s) := rfl
  simp (disch := decide) only [h, BitVec.extractLsb'_cast, BitVec.extractLsb'_append_eq_of_le,
    BitVec.extractLsb'_append_eq_of_add_le, BitVec.extractLsb'_eq_self, Nat.reduceSub, and_self]

@[simp] theorem packT_fields (op : BitVec 6) (t1 t2 : BitVec 1) (d : BitVec 5) (a b : BitVec 8) :
    (packT op t1 t2 d a b).extractLsb' 29 3 = 1#3 ∧ (packT op t1 t2 d a b).extractLsb' 23 6 = op ∧
    (packT op t1 t2 d a b).extractLsb' 22 1 = t2 ∧ (packT op t1 t2 d a b).extractLsb' 21 1 = t1 ∧
    (packT op t1 t2 d a b).extractLsb' 16 5 = d ∧ (packT op t1 t2 d a b).extractLsb' 8 8 = a ∧
    (packT op t1 t2 d a b).extractLsb' 0 8 = b := by
  have h : packT op t1 t2 d a b = BitVec.cast rfl (0b001#3 ++ op ++ t2 ++ t1 ++ d ++ a ++ b) := rfl
  simp (disch := decide) only [h, BitVec.extractLsb'_cast, BitVec.extractLsb'_append_eq_of_le,
    BitVec.extractLsb'_append_eq_of_add_le, BitVec.extractLsb'_eq_self, Nat.reduceSub, and_self]

@[simp] theorem packC_fields (k : BitVec 1) (c : BitVec 5) (g : BitVec 2) (d : BitVec 5) (s : BitVec 16) :
    (packC k c g d s).extractLsb' 29 3 = 2#3 ∧ (packC k c g d s).extractLsb' 28 1 = k ∧
    (packC k c g d s).extractLsb' 23 5 = c ∧ (packC k c g d s).extractLsb' 21 2 = g ∧
    (packC k c g d s).extractLsb' 16 5 = d ∧ (packC k c g d s).extractLsb' 0 16 = s := by
  have h : packC k c g d s = BitVec.cast rfl (0b010#3 ++ k ++ c ++ g ++ d ++ s) := rfl
  simp (disch := decide) only [h, BitVec.extractLsb'_cast, BitVec.extractLsb'_append_eq_of_le,
    BitVec.extractLsb'_append_eq_of_add_le, BitVec.extractLsb'_eq_self, Nat.reduceSub, and_self]

@[simp] theorem packL_fields (op : BitVec 5) (a : Addr) :
    (packL op a).extractLsb' 29 3 = 3#3 ∧ (packL op a).extractLsb' 24 5 = op ∧
    (packL op a).extractLsb' 26 3 = op.extractLsb' 2 3 ∧ (packL op a).extractLsb' 0 24 = a := by
  have h : packL op a = BitVec.cast rfl (0b011#3 ++ op ++ a) := rfl
  simp (disch := decide) only [h, BitVec.extractLsb'_cast, BitVec.extractLsb'_append_eq_of_le,
    BitVec.extractLsb'_append_eq_of_add_le, BitVec.extractLsb'_eq_self, Nat.reduceSub, and_self]

@[simp] theorem packB_fields (op : BitVec 3) (b : BitVec 1) (ar : BitVec 3) (d : BitVec 1) (c : BitVec 5) (s : BitVec 16) :
    (packB op b ar d c s).extractLsb' 29 3 = 3#3 ∧ (packB op b ar d c s).extractLsb' 26 3 = op ∧
    (packB op b ar d c s).extractLsb' 25 1 = b ∧ (packB op b ar d c s).extractLsb' 22 3 = ar ∧
    (packB op b ar d c s).extractLsb' 21 1 = d ∧ (packB op b ar d c s).extractLsb' 16 5 = c ∧
    (packB op b ar d c s).extractLsb' 0 16 = s := by
  have h : packB op b ar d c s = BitVec.cast rfl (0b011#3 ++ op ++ b ++ ar ++ d ++ c ++ s) := rfl
  simp (disch := decide) only [h, BitVec.extractLsb'_cast, BitVec.extractLsb'_append_eq_of_le,
    BitVec.extractLsb'_append_eq_of_add_le, BitVec.extractLsb'_eq_self, Nat.reduceSub, and_self]

@[simp] theorem packM_fields (op : BitVec 4) (p : BitVec 2) (d1 d2 : BitVec 1) (a b : BitVec 3) (c d : BitVec 8) :
    (packM op p d1 d2 a b c d).extractLsb' 26 4 = op ∧ (packM op p d1 d2 a b c d).extractLsb' 24 2 = p ∧
    (packM op p d1 d2 a b c d).extractLsb' 23 1 = d1 ∧ (packM op p d1 d2 a b c d).extractLsb' 22 1 = d2 ∧
    (packM op p d1 d2 a b c d).extractLsb' 19 3 = a ∧ (packM op p d1 d2 a b c d).extractLsb' 16 3 = b ∧
    (packM op p d1 d2 a b c d).extractLsb' 8 8 = c ∧ (packM op p d1 d2 a b c d).extractLsb' 0 8 = d := by
  have h : packM op p d1 d2 a b c d = BitVec.cast rfl (0b10#2 ++ op ++ p ++ d1 ++ d2 ++ a ++ b ++ c ++ d) := rfl
  simp (disch := decide) only [h, BitVec.extractLsb'_cast, BitVec.extractLsb'_append_eq_of_le,
    BitVec.extractLsb'_append_eq_of_add_le, BitVec.extractLsb'_eq_self, Nat.reduceSub, and_self]

@[simp] theorem packS_fields (op : BitVec 5) (x y z : BitVec 3) (hi lo : BitVec 8) :
    (packS op x y z hi lo).extractLsb' 25 5 = op ∧ (packS op x y z hi lo).extractLsb' 22 3 = x ∧
    (packS op x y z hi lo).extractLsb' 19 3 = y ∧ (packS op x y z hi lo).extractLsb' 16 3 = z ∧
    (packS op x y z hi lo).extractLsb' 8 8 = hi ∧ (packS op x y z hi lo).extractLsb' 0 8 = lo := by
  have h : packS op x y z hi lo = BitVec.cast rfl (0b11#2 ++ op ++ x ++ y ++ z ++ hi ++ lo) := rfl
  simp (disch := decide) only [h, BitVec.extractLsb'_cast, BitVec.extractLsb'_append_eq_of_le,
    BitVec.extractLsb'_append_eq_of_add_le, BitVec.extractLsb'_eq_self, Nat.reduceSub, and_self]

theorem packM_top (op : BitVec 4) (p : BitVec 2) (d1 d2 : BitVec 1) (a b : BitVec 3) (c d : BitVec 8) :
    ((packM op p d1 d2 a b c d).extractLsb' 29 3).toNat = 4 ∨ ((packM op p d1 d2 a b c d).extractLsb' 29 3).toNat = 5 := by
  have h : (packM op p d1 d2 a b c d).extractLsb' 30 2 = 2#2 := by
    have h : packM op p d1 d2 a b c d = BitVec.cast rfl (0b10#2 ++ op ++ p ++ d1 ++ d2 ++ a ++ b ++ c ++ d) := rfl
    simp (disch := decide) only [h, BitVec.extractLsb'_cast, BitVec.extractLsb'_append_eq_of_le,
      BitVec.extractLsb'_eq_self, Nat.reduceSub]
  have h := congrArg BitVec.toNat h
  simp only [BitVec.extractLsb'_toNat, BitVec.toNat_ofNat] at h ⊢
  omega

theorem packS_top (op : BitVec 5) (x y z : BitVec 3) (hi lo : BitVec 8) :
    6 ≤ ((packS op x y z hi lo).extractLsb' 29 3).toNat := by
  have h : (packS op x y z hi lo).extractLsb' 30 2 = 3#2 := by
    have h : packS op x y z hi lo = BitVec.cast rfl (0b11#2 ++ op ++ x ++ y ++ z ++ hi ++ lo) := rfl
    simp (disch := decide) only [h, BitVec.extractLsb'_cast, BitVec.extractLsb'_append_eq_of_le,
      BitVec.extractLsb'_eq_self, Nat.reduceSub]
  have h := congrArg BitVec.toNat h
  simp only [BitVec.extractLsb'_toNat, BitVec.toNat_ofNat] at h ⊢
  omega

/-! ### The operands read back -/

@[simp] theorem rnOf3_num3 (n : Fin 8) : rnOf3 (num3 n) = n := rfl

@[simp] theorem rnOf_rnCode (n : Rn) : rnOf (rnCode n) = .ok n := by
  revert n
  decide

@[simp] theorem regOf_code (r : Reg) : regOf r.code = .ok r := by
  cases r with
  | r n => revert n; decide
  | ar n => revert n; decide
  | _ => rfl

@[simp] theorem condOf_code (c : Cond) : condOf c.code = .ok c := by cases c <;> rfl

@[simp] theorem indModeOf_code (m : IndMode) : indModeOf m.code = m := by cases m <;> rfl

/-- The two parts of a `mod` field (R115). -/
theorem mod_parts (hi : BitVec 2) (lo : BitVec 3) :
    (hi ++ lo : BitVec 5).extractLsb' 3 2 = hi ∧ (hi ++ lo : BitVec 5).extractLsb' 0 3 = lo :=
  ⟨BitVec.extractLsb'_append_eq_left, BitVec.extractLsb'_append_eq_right⟩

/-- A 5-bit register field at the low end of an 8-bit or a 16-bit one. -/
@[simp] theorem low5_append (b : BitVec 5) :
    (0#3 ++ b : BitVec 8).extractLsb' 0 5 = b ∧ (0#11 ++ b : BitVec 16).extractLsb' 0 5 = b :=
  ⟨BitVec.extractLsb'_append_eq_right, BitVec.extractLsb'_append_eq_right⟩

/-- An indirect operand is read back from its `mod` and ARn fields and the displacement byte, where the form has one. -/
theorem indirectOf_mod (i : Indirect) (d : BitVec 8) (h : ∀ m k n, i = .indexed m (.disp k) n → k = d) :
    indirectOf i.mod (num3 i.arNum) d = .ok i := by
  cases i with
  | plain n => simp [indirectOf, Indirect.mod, Indirect.arNum]
  | bitrev n => simp [indirectOf, Indirect.mod, Indirect.arNum]
  | indexed m k n =>
    cases k with
    | disp k =>
      obtain rfl := h m k n rfl
      simp only [indirectOf, Indirect.mod, mod_parts, indModeOf_code, Indirect.arNum, rnOf3_num3]
      rfl
    | ir0 =>
      simp only [indirectOf, Indirect.mod, mod_parts, indModeOf_code, Indirect.arNum, rnOf3_num3]
      rfl
    | ir1 =>
      simp only [indirectOf, Indirect.mod, mod_parts, indModeOf_code, Indirect.arNum, rnOf3_num3]
      rfl

@[simp] theorem indirectOf16_field16 (i : Indirect) : indirectOf16 i.field16 = .ok i := by
  have h : i.field16 = BitVec.cast rfl (i.mod ++ num3 i.arNum ++ i.dispByte) := rfl
  simp (disch := decide) only [indirectOf16, h, BitVec.extractLsb'_cast, BitVec.extractLsb'_append_eq_of_le,
    BitVec.extractLsb'_append_eq_of_add_le, BitVec.extractLsb'_eq_self, Nat.reduceSub]
  refine indirectOf_mod i _ ?_
  rintro m k n rfl
  rfl

theorem indirectOf8_field8 {i : Indirect} (h : i.restricted = true) : indirectOf8 i.field8 = .ok i := by
  have e : i.field8 = BitVec.cast rfl (i.mod ++ num3 i.arNum) := rfl
  simp (disch := decide) only [indirectOf8, e, BitVec.extractLsb'_cast, BitVec.extractLsb'_append_eq_of_le,
    BitVec.extractLsb'_append_eq_of_add_le, BitVec.extractLsb'_eq_self, Nat.reduceSub]
  refine indirectOf_mod i _ ?_
  rintro m k n rfl
  exact eq_of_beq h

@[simp] theorem memOpOf_field (m : MemOp) : memOpOf m.g m.field = .ok m := by
  cases m with
  | dir k => rfl
  | ind i => simp [memOpOf, MemOp.g, MemOp.field, bind, Except.bind]

/-- The field of a register operand of format G, whose fill bits are zero (R112). -/
theorem regField_append (b : BitVec 5) : regField (0#11 ++ b) = .ok b := by
  have h : (0#11 ++ b).extractLsb' 5 11 = 0#11 ∧ (0#11 ++ b).extractLsb' 0 5 = b :=
    ⟨BitVec.extractLsb'_append_eq_left, BitVec.extractLsb'_append_eq_right⟩
  rw [regField, if_pos h.1, h.2]

@[simp] theorem srcOf_field (x : Src) : srcOf x.g x.field = .ok x := by
  cases x with
  | reg r => simp [srcOf, Src.g, Src.field, regField_append, bind, Except.bind]
  | imm k => rfl
  | mem m =>
    cases m with
    | dir k => rfl
    | ind i => simp [srcOf, memOpOf, Src.g, Src.field, MemOp.g, MemOp.field, bind, Except.bind]

@[simp] theorem fsrcOf_field (x : FSrc) : fsrcOf x.g x.field = .ok x := by
  cases x with
  | reg n => simp [fsrcOf, FSrc.g, FSrc.field, regField_append, bind, Except.bind]
  | imm k => rfl
  | mem m =>
    cases m with
    | dir k => rfl
    | ind i => simp [fsrcOf, memOpOf, FSrc.g, FSrc.field, MemOp.g, MemOp.field, bind, Except.bind]

theorem src3Of_field {x : Src3} (h : x.wf = true) : src3Of x.tBit x.field = .ok x := by
  cases x with
  | reg r => simp [src3Of, Src3.tBit, Src3.field, bind, Except.bind]
  | ind i => simp [src3Of, Src3.tBit, Src3.field, indirectOf8_field8 h, bind, Except.bind]

theorem fsrc3Of_field {x : FSrc3} (h : x.wf = true) : fsrc3Of x.tBit x.field = .ok x := by
  cases x with
  | reg r => simp [fsrc3Of, FSrc3.tBit, FSrc3.field, bind, Except.bind]
  | ind i => simp [fsrc3Of, FSrc3.tBit, FSrc3.field, indirectOf8_field8 h, bind, Except.bind]

@[simp] theorem csrcOf_field (x : Csrc) : csrcOf x.b x.field = .ok x := by
  cases x with
  | reg r => simp [csrcOf, Csrc.b, Csrc.field, bind, Except.bind]
  | disp d => rfl

end Sys2Proof
end

section
/-!
Decoding after encoding (R112 to R121): the decoder of each format reads back the operands that the encoder of the format
packed, and the operation number selects that decoder.
-/
namespace Sys2Proof

/-! ### The formats -/

theorem decode_packG (op : BitVec 6) (g : BitVec 2) (d : BitVec 5) (s : BitVec 16) :
    decode (packG op g d s) = decodeG (packG op g d s) := by
  simp only [decode, packG_fields]
  rfl

theorem decode_packT (op : BitVec 6) (t1 t2 : BitVec 1) (d : BitVec 5) (a b : BitVec 8) :
    decode (packT op t1 t2 d a b) = decodeT (packT op t1 t2 d a b) := by
  simp only [decode, packT_fields]
  rfl

theorem decode_packC (k : BitVec 1) (c : BitVec 5) (g : BitVec 2) (d : BitVec 5) (s : BitVec 16) :
    decode (packC k c g d s) = decodeC (packC k c g d s) := by
  simp only [decode, packC_fields]
  rfl

theorem decode_packL (op : BitVec 5) (a : Addr) : decode (packL op a) = decodeB (packL op a) := by
  simp only [decode, packL_fields]
  rfl

theorem decode_packB (op : BitVec 3) (b : BitVec 1) (ar : BitVec 3) (d : BitVec 1) (c : BitVec 5) (s : BitVec 16) :
    decode (packB op b ar d c s) = decodeB (packB op b ar d c s) := by
  simp only [decode, packB_fields]
  rfl

theorem decode_packM (op : BitVec 4) (p : BitVec 2) (d1 d2 : BitVec 1) (a b : BitVec 3) (c d : BitVec 8) :
    decode (packM op p d1 d2 a b c d) = decodeM (packM op p d1 d2 a b c d) := by
  rcases packM_top op p d1 d2 a b c d with h | h <;> simp only [decode, h]

theorem decode_packS (op : BitVec 5) (x y z : BitVec 3) (hi lo : BitVec 8) :
    decode (packS op x y z hi lo) = decodeS (packS op x y z hi lo) := by
  have h := packS_top op x y z hi lo
  unfold decode
  split <;> first | rfl | omega

/-! ### Format G -/

theorem decInt_packG (k : Src → Reg → Instr) (op : BitVec 6) (src : Src) (dst : Reg) :
    decInt k (packG op src.g dst.code src.field) = .ok (k src dst) := by
  simp [decInt, bind, Except.bind]

theorem decFlt_packG (k : FSrc → Rn → Instr) (op : BitVec 6) (src : FSrc) (dst : Rn) :
    decFlt k (packG op src.g (rnCode dst) src.field) = .ok (k src dst) := by
  simp [decFlt, bind, Except.bind]

theorem decRegMem_packG (k : Reg → MemOp → Instr) (op : BitVec 6) (m : MemOp) (r : Reg) :
    decRegMem k (packG op m.g r.code m.field) = .ok (k r m) := by
  simp [decRegMem, bind, Except.bind]

theorem decRnMem_packG (k : Rn → MemOp → Instr) (op : BitVec 6) (m : MemOp) (n : Rn) :
    decRnMem k (packG op m.g (rnCode n) m.field) = .ok (k n m) := by
  simp [decRnMem, bind, Except.bind]

theorem decReg_packG (k : Reg → Instr) (op : BitVec 6) (g : BitVec 2) (low : BitVec 16) (r : Reg) :
    decReg g low k (packG op g r.code low) = .ok (k r) := by
  simp [decReg, bind, Except.bind]

theorem decRn_packG (k : Rn → Instr) (op : BitVec 6) (g : BitVec 2) (low : BitVec 16) (n : Rn) :
    decRn g low k (packG op g (rnCode n) low) = .ok (k n) := by
  simp [decRn, bind, Except.bind]

/-- The bits that tell LDP from LDI, which are the form, the register and the upper half of the operand, and the page. -/
theorem packG_ldpBits (op : BitVec 6) (g : BitVec 2) (d : BitVec 5) (s : BitVec 16) :
    (packG op g d s).extractLsb' 8 15 = g ++ d ++ s.extractLsb' 8 8 ∧
    (packG op g d s).extractLsb' 0 8 = s.extractLsb' 0 8 := by
  constructor
  all_goals
    apply BitVec.eq_of_getLsbD_eq
    intro i hi
    rw [BitVec.getLsbD_extractLsb', Laws.Encoding.packG_bit]
    simp only [BitVec.getLsbD_append, BitVec.getLsbD_extractLsb']
    interval_cases i <;> simp

end Sys2Proof
end

section
namespace Sys2Proof

/-- The three fields of the bits that tell LDP from LDI. -/
theorem ldpBits_parts {g : BitVec 2} {d : BitVec 5} {s : BitVec 8} (h : g ++ d ++ s = 0b111000000000000#15) :
    g = 3#2 ∧ d = 0x10#5 ∧ s = 0#8 := by
  have part (i n : Nat) : (g ++ d ++ s).extractLsb' i n = (0b111000000000000#15).extractLsb' i n :=
    congrArg (BitVec.extractLsb' i n) h
  refine ⟨.trans ?_ (part 13 2), .trans ?_ (part 8 5), .trans ?_ (part 0 8)⟩
  all_goals simp (disch := decide) only [BitVec.extractLsb'_append_eq_of_le, BitVec.extractLsb'_append_eq_of_add_le,
    BitVec.extractLsb'_eq_self, Nat.reduceSub]

theorem decLdi_packG {src : Src} {dst : Reg} (op : BitVec 6) (h : isLdp src dst = false) :
    decLdi (packG op src.g dst.code src.field) = .ok (.ldi src dst) := by
  rw [decLdi, if_neg, decInt_packG]
  rw [(packG_ldpBits ..).1]
  intro he
  obtain ⟨hg, hd, hs⟩ := ldpBits_parts he
  obtain rfl : dst = .dp := Except.ok.inj ((regOf_code dst).symm.trans ((congrArg regOf hd).trans (regOf_code .dp)))
  cases src with
  | reg r => simp [Src.g] at hg
  | mem m => cases m <;> simp [Src.g, MemOp.g] at hg
  | imm k =>
    rw [isLdp, beq_eq_false_iff_ne] at h
    exact h hs

theorem decLdi_packG_page (page : BitVec 8) : decLdi (packG 0x10#6 0b11#2 0x10#5 (0#8 ++ page)) = .ok (.ldp page) := by
  have hhi : (0#8 ++ page : BitVec 16).extractLsb' 8 8 = 0#8 := BitVec.extractLsb'_append_eq_left
  have hlo : (0#8 ++ page : BitVec 16).extractLsb' 0 8 = page := BitVec.extractLsb'_append_eq_right
  rw [decLdi, (packG_ldpBits ..).1, (packG_ldpBits ..).2, hhi, hlo, if_pos]
  rfl

/-! ### Format T -/

theorem decT_packT (k : Src3 → Src3 → Reg → Instr) (op : BitVec 6) {x y : Src3} (dst : Reg) (h : (x.wf && y.wf) = true) :
    decT k (packT op x.tBit y.tBit dst.code x.field y.field) = .ok (k x y dst) := by
  rw [Bool.and_eq_true] at h
  simp [decT, src3Of_field h.1, src3Of_field h.2, bind, Except.bind]

theorem decTF_packT (k : FSrc3 → FSrc3 → Rn → Instr) (op : BitVec 6) {x y : FSrc3} (dst : Rn) (h : (x.wf && y.wf) = true) :
    decTF k (packT op x.tBit y.tBit (rnCode dst) x.field y.field) = .ok (k x y dst) := by
  rw [Bool.and_eq_true] at h
  simp [decTF, fsrc3Of_field h.1, fsrc3Of_field h.2, bind, Except.bind]

theorem decTNoDst_packT (k : Src3 → Src3 → Instr) (op : BitVec 6) {x y : Src3} (d : BitVec 5) (h : (x.wf && y.wf) = true) :
    decTNoDst k (packT op x.tBit y.tBit d x.field y.field) = .ok (k x y) := by
  rw [Bool.and_eq_true] at h
  simp [decTNoDst, src3Of_field h.1, src3Of_field h.2, bind, Except.bind]

theorem decTFNoDst_packT (k : FSrc3 → FSrc3 → Instr) (op : BitVec 6) {x y : FSrc3} (d : BitVec 5)
    (h : (x.wf && y.wf) = true) : decTFNoDst k (packT op x.tBit y.tBit d x.field y.field) = .ok (k x y) := by
  rw [Bool.and_eq_true] at h
  simp [decTFNoDst, fsrc3Of_field h.1, fsrc3Of_field h.2, bind, Except.bind]

/-! ### Branches -/

@[simp] theorem decCsrc_packB (op : BitVec 3) (x : Csrc) (ar : BitVec 3) (d : BitVec 1) (c : BitVec 5) :
    decCsrc (packB op x.b ar d c x.field) = .ok x := by
  simp [decCsrc]

/-- The bits before the condition of a trap or a return, and of a call (R118, R119). -/
theorem packB_joined (op : BitVec 3) (b : BitVec 1) (ar : BitVec 3) (d : BitVec 1) (c : BitVec 5) (s : BitVec 16) :
    (packB op b ar d c s).extractLsb' 21 5 = b ++ ar ++ d ∧ (packB op b ar d c s).extractLsb' 21 4 = ar ++ d ∧
    (packB op b ar d c s).extractLsb' 5 11 = s.extractLsb' 5 11 ∧
    (packB op b ar d c s).extractLsb' 0 5 = s.extractLsb' 0 5 := by
  refine ⟨?_, ?_, ?_, ?_⟩
  all_goals
    apply BitVec.eq_of_getLsbD_eq
    intro i hi
    rw [BitVec.getLsbD_extractLsb', Laws.Encoding.packB_bit]
    simp only [BitVec.getLsbD_append, BitVec.getLsbD_extractLsb']
    interval_cases i <;> simp

/-! ### The parallel formats -/

theorem getLsbD_packM (op : BitVec 4) (p : BitVec 2) (x y : Bool) (a b : BitVec 3) (c d : BitVec 8) :
    (packM op p (BitVec.ofBool x) (BitVec.ofBool y) a b c d).getLsbD 23 = x ∧
    (packM op p (BitVec.ofBool x) (BitVec.ofBool y) a b c d).getLsbD 22 = y := by
  simp only [BitVec.getLsbD_eq_extractLsb', packM_fields]
  cases x <;> cases y <;> decide

theorem mulPairOf_packM (op : BitVec 4) (p : BitVec 2) (x y : Bool) (a b : Fin 8) {c d : Indirect}
    (hc : c.restricted = true) (hd : d.restricted = true) :
    mulPairOf (packM op p (BitVec.ofBool x) (BitVec.ofBool y) (num3 a) (num3 b) c.field8 d.field8) =
      match p.toNat with
      | 0 => .ok ⟨.ind c, .ind d, x, .reg a, .reg b, y⟩
      | 1 => .ok ⟨.ind c, .reg a, x, .ind d, .reg b, y⟩
      | 2 => .ok ⟨.reg a, .reg b, x, .ind c, .ind d, y⟩
      | _ => .ok ⟨.ind c, .reg a, x, .reg b, .ind d, y⟩ := by
  simp only [mulPairOf, packM_fields, getLsbD_packM, indirectOf8_field8 hc, indirectOf8_field8 hd, rnOf3_num3]
  rfl

end Sys2Proof
end

section
/-!
The remaining formats: operations packed with fixed fields (R113), conditional loads (R116), branches, traps and returns
(R117 to R119) and the parallel instructions (R120, R121).
-/
namespace Sys2Proof

/-! ### Format G and the conditional loads -/

/-- The form and the register field together. -/
theorem packG_formAndReg (op : BitVec 6) (g : BitVec 2) (d : BitVec 5) (s : BitVec 16) :
    (packG op g d s).extractLsb' 16 7 = g ++ d := by
  apply BitVec.eq_of_getLsbD_eq
  intro i hi
  rw [BitVec.getLsbD_extractLsb', Laws.Encoding.packG_bit]
  simp only [BitVec.getLsbD_append]
  interval_cases i <;> simp

theorem decTwoWords_packG (even odd : Instr) (op : BitVec 6) :
    decTwoWords even odd (packG op 0b00#2 0#5 0#16) = .ok even ∧ decTwoWords even odd (packG op 0b00#2 0#5 1#16) = .ok odd := by
  simp only [decTwoWords, packG_formAndReg, packG_fields]
  exact ⟨rfl, rfl⟩

theorem decRpts_packG (op : BitVec 6) (src : Src) : decRpts (packG op src.g 0x1B#5 src.field) = .ok (.rpts src) := by
  simp [decRpts, bind, Except.bind]

theorem decIack_packG (op : BitVec 6) (m : MemOp) : decIack (packG op m.g 0#5 m.field) = .ok (.iack m) := by
  simp [decIack, bind, Except.bind]

theorem decNop_packG (op : BitVec 6) (i : Indirect) : decNop (packG op 0b10#2 0#5 i.field16) = .ok (.nop (some i)) := by
  simp [decNop, bind, Except.bind]

theorem decodeC_packC_flt (c : Cond) (src : FSrc) (dst : Rn) :
    decodeC (packC 0#1 c.code src.g (rnCode dst) src.field) = .ok (.ldfcond c src dst) := by
  simp [decodeC, decFlt, bind, Except.bind]

theorem decodeC_packC_int (c : Cond) (src : Src) (dst : Reg) :
    decodeC (packC 1#1 c.code src.g dst.code src.field) = .ok (.ldicond c src dst) := by
  simp [decodeC, decInt, bind, Except.bind]

/-! ### Branches, calls, traps and returns -/

theorem decodeB_bcond (c : Cond) (x : Csrc) (d : BitVec 1) :
    decodeB (packB 0b010#3 x.b 0#3 d c.code x.field) = .ok (if d = 0#1 then .bcond c x else .bcondD c x) := by
  simp [decodeB, bind, Except.bind]

theorem decodeB_dbcond (c : Cond) (ar : ARn) (x : Csrc) (d : BitVec 1) :
    decodeB (packB 0b011#3 x.b (num3 ar) d c.code x.field) =
      .ok (if d = 0#1 then .dbcond c ar x else .dbcondD c ar x) := by
  simp [decodeB, bind, Except.bind]

theorem decodeB_callcond (c : Cond) (x : Csrc) :
    decodeB (packB 0b100#3 x.b 0#3 0#1 c.code x.field) = .ok (.callcond c x) := by
  simp [decodeB, packB_joined, bind, Except.bind]

theorem decodeB_trapcond (c : Cond) (n : Fin 32) :
    decodeB (packB 0b101#3 0#1 0#3 0#1 c.code (0b00000000001#11 ++ num5 n)) = .ok (.trapcond c n) := by
  have hhi : (0b00000000001#11 ++ num5 n : BitVec 16).extractLsb' 5 11 = 1#11 := BitVec.extractLsb'_append_eq_left
  have hlo : (0b00000000001#11 ++ num5 n : BitVec 16).extractLsb' 0 5 = num5 n := BitVec.extractLsb'_append_eq_right
  simp [decodeB, packB_joined, hhi, hlo, bind, Except.bind]
  rfl

theorem decodeB_return (c : Cond) :
    decodeB (packB 0b110#3 0#1 0#3 0#1 c.code 0#16) = .ok (.reticond c) ∧
    decodeB (packB 0b110#3 0#1 0b010#3 0#1 c.code 0#16) = .ok (.retscond c) := by
  simp [decodeB, packB_joined, bind, Except.bind]

/-! ### The parallel formats -/

/-- The four arrangements of the operands of a parallel multiply that have a word (R120). -/
theorem MulPair.wf_cases {p : MulPair} (h : p.wf = true) :
    ∃ (c d : Indirect) (a b : Rn) (x y : Bool), c.restricted = true ∧ d.restricted = true ∧
      (p = ⟨.ind c, .ind d, x, .reg a, .reg b, y⟩ ∨ p = ⟨.ind c, .reg a, x, .ind d, .reg b, y⟩ ∨
       p = ⟨.reg a, .reg b, x, .ind c, .ind d, y⟩ ∨ p = ⟨.ind c, .reg a, x, .reg b, .ind d, y⟩) := by
  obtain ⟨op1, op2, x, op4, op5, y⟩ := p
  simp only [MulPair.wf, MulPair.arranged, Bool.and_eq_true] at h
  obtain ⟨⟨⟨⟨harranged, h1⟩, h2⟩, h4⟩, h5⟩ := h
  split at harranged
  next c d a b => exact ⟨c, d, a, b, x, y, h1, h2, .inl rfl⟩
  next c a d b => exact ⟨c, d, a, b, x, y, h1, h4, .inr (.inl rfl)⟩
  next a b c d => exact ⟨c, d, a, b, x, y, h4, h5, .inr (.inr (.inl rfl))⟩
  next c a b d => exact ⟨c, d, a, b, x, y, h1, h5, .inr (.inr (.inr rfl))⟩
  next => cases harranged

theorem encodeMul_read (op : BitVec 4) {p : MulPair} (h : p.wf = true) :
    decode (encodeMul op p) = decodeM (encodeMul op p) ∧ (encodeMul op p).extractLsb' 26 4 = op ∧
    mulPairOf (encodeMul op p) = .ok p := by
  obtain ⟨c, d, a, b, x, y, hc, hd, rfl | rfl | rfl | rfl⟩ := MulPair.wf_cases h <;>
    exact ⟨decode_packM .., (packM_fields ..).1, mulPairOf_packM _ _ _ _ _ _ hc hd⟩

theorem decOne_encodeOne (k : OneStore → Instr) (op : BitVec 5) {p : OneStore} (h : p.wf = true) :
    decOne k (encodeOne op p) = .ok (k p) := by
  rw [OneStore.wf, Bool.and_eq_true] at h
  simp [decOne, encodeOne, indirectOf8_field8 h.1, indirectOf8_field8 h.2, bind, Except.bind]

theorem decTwo_encodeTwo (k : TwoStore → Instr) (op : BitVec 5) {p : TwoStore} (h : p.wf = true) :
    decTwo k (encodeTwo op p) = .ok (k p) := by
  rw [TwoStore.wf, Bool.and_eq_true] at h
  simp [decTwo, encodeTwo, indirectOf8_field8 h.1, indirectOf8_field8 h.2, bind, Except.bind]

theorem decStorePair_packS (k : StorePair → Instr) (op : BitVec 5) {p : StorePair} (h : p.wf = true) :
    decStorePair k (packS op (num3 p.src1) 0#3 (num3 p.src3) p.dst2.field8 p.dst1.field8) = .ok (k p) := by
  rw [StorePair.wf, Bool.and_eq_true] at h
  simp [decStorePair, indirectOf8_field8 h.1, indirectOf8_field8 h.2, bind, Except.bind]

theorem decLoadPair_packS (k : LoadPair → Instr) (op : BitVec 5) {p : LoadPair} (h : p.wf = true) :
    decLoadPair k (packS op (num3 p.dst1) (num3 p.dst2) 0#3 p.src4.field8 p.src2.field8) = .ok (k p) := by
  rw [LoadPair.wf, Bool.and_eq_true] at h
  simp [decLoadPair, indirectOf8_field8 h.1, indirectOf8_field8 h.2, bind, Except.bind]

end Sys2Proof
end

section
/-! Decoding gives back the encoded instruction, format by format. -/
namespace Sys2Proof

/-- The word of a well-formed instruction selects its format, the operation number its row, and the row's decoder reads the
operands back. -/
theorem decode_encode (i : Instr) (h : i.wf = true) : decode (encode i) = .ok i := by
  cases i with
  | absi src dst | addc src dst | addi src dst | and src dst | andn src dst | ash src dst | cmpi src dst | lsh src dst
  | mpyi src dst | negb src dst | negi src dst | not src dst | or src dst | subb src dst | subc src dst | subi src dst
  | subrb src dst | subri src dst | tstb src dst | xor src dst =>
    rw [encode, decode_packG, decodeG, (packG_fields ..).2.1]
    exact decInt_packG ..
  | ldi src dst =>
    rw [encode, decode_packG, decodeG, (packG_fields ..).2.1]
    exact decLdi_packG _ (by simpa [Instr.wf] using h)
  | absf src dst | addf src dst | cmpf src dst | lde src dst | ldf src dst | ldm src dst | mpyf src dst | negf src dst
  | norm src dst | rnd src dst | subf src dst | subrf src dst =>
    rw [encode, decode_packG, decodeG, (packG_fields ..).2.1]
    exact decFlt_packG ..
  | fix src dst | float src dst =>
    rw [encode, decode_packG, decodeG, (packG_fields ..).2.1]
    simp [bind, Except.bind]
  | stf src daddr | ldfi src dst | stfi src daddr =>
    rw [encode, decode_packG, decodeG, (packG_fields ..).2.1]
    exact decRnMem_packG ..
  | sti src daddr | ldii src dst | stii src daddr =>
    rw [encode, decode_packG, decodeG, (packG_fields ..).2.1]
    exact decRegMem_packG ..
  | pop dst | push src | rol dst | rolc dst | ror dst | rorc dst =>
    rw [encode, decode_packG, decodeG, (packG_fields ..).2.1]
    exact decReg_packG ..
  | popf dst | pushf src =>
    rw [encode, decode_packG, decodeG, (packG_fields ..).2.1]
    exact decRn_packG ..
  | ldp page =>
    rw [encode, decode_packG, decodeG, (packG_fields ..).2.1]
    exact decLdi_packG_page _
  | sigi | swi =>
    rfl
  | idle | maxspeed =>
    rw [encode, decode_packG, decodeG, (packG_fields ..).2.1]
    exact (decTwoWords_packG ..).1
  | idle2 | lopower =>
    rw [encode, decode_packG, decodeG, (packG_fields ..).2.1]
    exact (decTwoWords_packG ..).2
  | rpts src =>
    rw [encode, decode_packG, decodeG, (packG_fields ..).2.1]
    exact decRpts_packG ..
  | iack src =>
    rw [encode, decode_packG, decodeG, (packG_fields ..).2.1]
    exact decIack_packG ..
  | addc3 src1 src2 dst | addi3 src1 src2 dst | and3 src1 src2 dst | andn3 src1 src2 dst | ash3 src count dst
  | lsh3 src count dst | mpyi3 src1 src2 dst | or3 src1 src2 dst | subb3 src1 src2 dst | subi3 src1 src2 dst
  | xor3 src1 src2 dst =>
    rw [encode, decode_packT, decodeT, (packT_fields ..).2.1]
    exact decT_packT _ _ _ h
  | addf3 src1 src2 dst | mpyf3 src1 src2 dst | subf3 src1 src2 dst =>
    rw [encode, decode_packT, decodeT, (packT_fields ..).2.1]
    exact decTF_packT _ _ _ h
  | cmpf3 src1 src2 =>
    rw [encode, decode_packT, decodeT, (packT_fields ..).2.1]
    exact decTFNoDst_packT _ _ _ h
  | cmpi3 src1 src2 | tstb3 src1 src2 =>
    rw [encode, decode_packT, decodeT, (packT_fields ..).2.1]
    exact decTNoDst_packT _ _ _ h
  | ldfcond c src dst =>
    rw [encode, decode_packC]
    exact decodeC_packC_flt ..
  | ldicond c src dst =>
    rw [encode, decode_packC]
    exact decodeC_packC_int ..
  | br addr | brd addr | call addr | rptb addr =>
    rw [encode, decode_packL]
    simp only [decodeB, packL_fields]
    rfl
  | bcond c csrc | bcondD c csrc =>
    rw [encode, decode_packB]
    exact decodeB_bcond ..
  | dbcond c ar csrc | dbcondD c ar csrc =>
    rw [encode, decode_packB]
    exact decodeB_dbcond ..
  | callcond c csrc =>
    rw [encode, decode_packB]
    exact decodeB_callcond ..
  | trapcond c n =>
    rw [encode, decode_packB]
    exact decodeB_trapcond ..
  | reticond c =>
    rw [encode, decode_packB]
    exact (decodeB_return _).1
  | retscond c =>
    rw [encode, decode_packB]
    exact (decodeB_return _).2
  | mpyf3Addf3 p | mpyf3Subf3 p | mpyi3Addi3 p | mpyi3Subi3 p =>
    obtain ⟨hd, hop, hp⟩ := encodeMul_read _ h
    rw [encode, hd, decodeM, hop, hp]
    rfl
  | stfStf p | stiSti p =>
    rw [encode, decode_packS, decodeS, (packS_fields ..).1]
    exact decStorePair_packS _ _ h
  | ldfLdf p | ldiLdi p =>
    rw [encode, decode_packS, decodeS, (packS_fields ..).1]
    exact decLoadPair_packS _ _ h
  | absfStf p | absiSti p | fixSti p | floatStf p | ldfStf p | ldiSti p | negfStf p | negiSti p | notSti p =>
    rw [encode, encodeOne, decode_packS, decodeS, (packS_fields ..).1]
    exact decOne_encodeOne _ _ h
  | addf3Stf p | addi3Sti p | and3Sti p | ash3Sti p | lsh3Sti p | mpyf3Stf p | mpyi3Sti p | or3Sti p | subf3Stf p
  | subi3Sti p | xor3Sti p =>
    rw [encode, encodeTwo, decode_packS, decodeS, (packS_fields ..).1]
    exact decTwo_encodeTwo _ _ h
  | nop i =>
    cases i with
    | none => rfl
    | some i =>
      rw [encode, decode_packG, decodeG, (packG_fields ..).2.1]
      exact decNop_packG _ _

/-- Settles O2: every format reads back what it packed. -/
theorem decodeOfEncode : Obligations.DecodeOfEncode := decode_encode

end Sys2Proof
end

section
/-!
What the decoder accepts (R105, R112 to R121): the operand decoders with the bits they read, and the rows of each format.
-/
namespace Sys2Proof

/-! ### Operands that decode -/

theorem dec_bind {α β : Type} {x : Except DecodeError α} {f : α → Except DecodeError β} {b : β} :
    x.bind f = .ok b ↔ ∃ a, x = .ok a ∧ f a = .ok b := by
  cases x <;> simp [Except.bind]

theorem extractLsb'_extractLsb' {w : Nat} (x : BitVec w) {a n b m : Nat} (h : b + m ≤ n) :
    (x.extractLsb' a n).extractLsb' b m = x.extractLsb' (a + b) m := by
  apply BitVec.eq_of_getLsbD_eq
  intro i hi
  simp only [BitVec.getLsbD_extractLsb', hi, decide_true, Bool.true_and, Nat.add_assoc,
    show b + i < n by omega]

theorem regOf_error : ∀ b : BitVec 5, 28 ≤ b.toNat → regOf b = .error .noSuchRegister := by decide

theorem rnOf_error : ∀ b : BitVec 5, 8 ≤ b.toNat → rnOf b = .error .noSuchRegister := by decide

theorem condOf_error : ∀ b : BitVec 5, b.toNat = 11 ∨ 21 ≤ b.toNat → condOf b = .error .noSuchCondition := by decide

theorem regOf_ok {b : BitVec 5} {r : Reg} (h : regOf b = .ok r) : b.toNat < 28 := by
  by_contra hb
  rw [regOf_error b (by omega)] at h
  cases h

theorem rnOf_ok {b : BitVec 5} {n : Rn} (h : rnOf b = .ok n) : b.toNat < 8 := by
  by_contra hb
  rw [rnOf_error b (by omega)] at h
  cases h

theorem condOf_ok {b : BitVec 5} {c : Cond} (h : condOf b = .ok c) : b.toNat ≠ 11 ∧ b.toNat < 21 := by
  by_contra hb
  rw [condOf_error b (by omega)] at h
  cases h

theorem indirectOf_ok {md : BitVec 5} {ar : BitVec 3} {d : BitVec 8} {i : Indirect} (h : indirectOf md ar d = .ok i) :
    md.toNat < 26 := by
  by_contra hb
  have herr : 26 ≤ md.toNat → (md.extractLsb' 3 2).toNat = 3 ∧ 2 ≤ (md.extractLsb' 0 3).toNat := by
    clear h hb
    revert md
    decide
  obtain ⟨hhi, hlo⟩ := herr (by omega)
  unfold indirectOf at h
  split at h <;> first | omega | cases h

theorem indirectOf16_ok {w : Word} {i : Indirect} (h : indirectOf16 (w.extractLsb' 0 16) = .ok i) :
    (w.extractLsb' 11 5).toNat < 26 := by
  simpa (disch := decide) only [extractLsb'_extractLsb', Nat.zero_add] using indirectOf_ok h

theorem indirectOf8_ok {s : BitVec 8} {i : Indirect} (h : indirectOf8 s = .ok i) :
    i.restricted = true ∧ (s.extractLsb' 3 5).toNat < 26 := by
  refine ⟨?_, indirectOf_ok h⟩
  unfold indirectOf8 indirectOf at h
  split at h <;> cases h <;> rfl

/-- The form and the `mod` field of a memory operand of format G. -/
theorem memOpOf_ok {w : Word} {m : MemOp} (h : memOpOf (w.extractLsb' 21 2) (w.extractLsb' 0 16) = .ok m) :
    (w.extractLsb' 21 2).toNat = 1 ∨ (w.extractLsb' 21 2).toNat = 2 ∧ (w.extractLsb' 11 5).toNat < 26 := by
  unfold memOpOf at h
  split at h
  next hg => exact .inl hg
  next hg =>
    obtain ⟨i, hi, -⟩ := dec_bind.mp h
    exact .inr ⟨hg, indirectOf16_ok hi⟩
  next => cases h

/-- The register field of a G = 00 operand, whose number is below `bound`, and the `mod` field of an indirect one. -/
def SourceBits (w : Word) (bound : Nat) : Prop :=
  ((w.extractLsb' 21 2).toNat = 0 → w.extractLsb' 5 11 = 0#11 ∧ (w.extractLsb' 0 5).toNat < bound) ∧
  ((w.extractLsb' 21 2).toNat = 2 → (w.extractLsb' 11 5).toNat < 26)

theorem regField_ok {w : Word} {b : BitVec 5} (h : regField (w.extractLsb' 0 16) = .ok b) :
    w.extractLsb' 5 11 = 0#11 ∧ b = w.extractLsb' 0 5 := by
  unfold regField at h
  simp (disch := decide) only [extractLsb'_extractLsb', Nat.zero_add] at h
  split at h
  next hfill => exact ⟨hfill, (Except.ok.inj h).symm⟩
  next => cases h

theorem memOpOf_bits {w : Word} {m : MemOp} (bound : Nat)
    (h : memOpOf (w.extractLsb' 21 2) (w.extractLsb' 0 16) = .ok m) : SourceBits w bound := by
  rcases memOpOf_ok h with hg | ⟨hg, hmod⟩
  · exact ⟨fun h0 => by omega, fun h2 => by omega⟩
  · exact ⟨fun h0 => by omega, fun _ => hmod⟩

theorem srcOf_ok {w : Word} {x : Src} (h : srcOf (w.extractLsb' 21 2) (w.extractLsb' 0 16) = .ok x) : SourceBits w 28 := by
  unfold srcOf at h
  split at h
  next hg =>
    obtain ⟨b, hb, h⟩ := dec_bind.mp h
    obtain ⟨r, hr, -⟩ := dec_bind.mp h
    obtain ⟨hfill, rfl⟩ := regField_ok hb
    exact ⟨fun _ => ⟨hfill, regOf_ok hr⟩, fun h2 => by omega⟩
  next hg => exact ⟨fun h0 => by omega, fun h2 => by omega⟩
  next =>
    obtain ⟨m, hm, -⟩ := dec_bind.mp h
    exact memOpOf_bits 28 hm

theorem fsrcOf_ok {w : Word} {x : FSrc} (h : fsrcOf (w.extractLsb' 21 2) (w.extractLsb' 0 16) = .ok x) : SourceBits w 8 := by
  unfold fsrcOf at h
  split at h
  next hg =>
    obtain ⟨b, hb, h⟩ := dec_bind.mp h
    obtain ⟨n, hn, -⟩ := dec_bind.mp h
    obtain ⟨hfill, rfl⟩ := regField_ok hb
    exact ⟨fun _ => ⟨hfill, rnOf_ok hn⟩, fun h2 => by omega⟩
  next hg => exact ⟨fun h0 => by omega, fun h2 => by omega⟩
  next =>
    obtain ⟨m, hm, -⟩ := dec_bind.mp h
    exact memOpOf_bits 8 hm

/-- The bits of a T or parallel operand: a register number below `bound` at `t = 0`, else a `mod` field (R114, R115). -/
def ThreeBits (t : BitVec 1) (s : BitVec 8) (bound : Nat) : Prop :=
  (t = 0#1 → (s.extractLsb' 0 5).toNat < bound) ∧ (t ≠ 0#1 → (s.extractLsb' 3 5).toNat < 26)

theorem src3Of_ok {t : BitVec 1} {s : BitVec 8} {x : Src3} (h : src3Of t s = .ok x) : x.wf = true ∧ ThreeBits t s 28 := by
  unfold src3Of at h
  split at h
  next ht =>
    obtain ⟨r, hr, h⟩ := dec_bind.mp h
    cases h
    exact ⟨rfl, fun _ => regOf_ok hr, fun h1 => absurd ht h1⟩
  next ht =>
    obtain ⟨i, hi, h⟩ := dec_bind.mp h
    cases h
    exact ⟨(indirectOf8_ok hi).1, fun h0 => absurd h0 ht, fun _ => (indirectOf8_ok hi).2⟩

theorem fsrc3Of_ok {t : BitVec 1} {s : BitVec 8} {x : FSrc3} (h : fsrc3Of t s = .ok x) : x.wf = true ∧ ThreeBits t s 8 := by
  unfold fsrc3Of at h
  split at h
  next ht =>
    obtain ⟨n, hn, h⟩ := dec_bind.mp h
    cases h
    exact ⟨rfl, fun _ => rnOf_ok hn, fun h1 => absurd ht h1⟩
  next ht =>
    obtain ⟨i, hi, h⟩ := dec_bind.mp h
    cases h
    exact ⟨(indirectOf8_ok hi).1, fun h0 => absurd h0 ht, fun _ => (indirectOf8_ok hi).2⟩

theorem csrcOf_ok {w : Word} {x : Csrc} (h : decCsrc w = .ok x) (hb : w.extractLsb' 25 1 = 0#1) :
    (w.extractLsb' 0 5).toNat < 28 := by
  rw [decCsrc, csrcOf, if_pos hb] at h
  obtain ⟨r, hr, -⟩ := dec_bind.mp h
  simpa (disch := decide) only [extractLsb'_extractLsb', Nat.zero_add] using regOf_ok hr

end Sys2Proof
end

section
/-!
What each format accepts: the instruction is well formed and the bits of the word are in range.
-/
namespace Sys2Proof

variable {w : Word} {i : Instr}

/-! ### Rows of format G (R113) -/

theorem decInt_ok {k : Src → Reg → Instr} (hk : ∀ s d, (k s d).wf = true) (h : decInt k w = .ok i) :
    i.wf = true ∧ SourceBits w 28 ∧ (w.extractLsb' 16 5).toNat < 28 := by
  obtain ⟨s, hs, h⟩ := dec_bind.mp h
  obtain ⟨d, hd, h⟩ := dec_bind.mp h
  cases h
  exact ⟨hk s d, srcOf_ok hs, regOf_ok hd⟩

theorem decFlt_ok {k : FSrc → Rn → Instr} (hk : ∀ s d, (k s d).wf = true) (h : decFlt k w = .ok i) :
    i.wf = true ∧ SourceBits w 8 ∧ (w.extractLsb' 16 5).toNat < 8 := by
  obtain ⟨s, hs, h⟩ := dec_bind.mp h
  obtain ⟨d, hd, h⟩ := dec_bind.mp h
  cases h
  exact ⟨hk s d, fsrcOf_ok hs, rnOf_ok hd⟩

/-- The form and `mod` bits of an operand that must be in memory. -/
def MemoryBits (w : Word) : Prop :=
  (w.extractLsb' 21 2).toNat = 1 ∨ (w.extractLsb' 21 2).toNat = 2 ∧ (w.extractLsb' 11 5).toNat < 26

theorem decRegMem_ok {k : Reg → MemOp → Instr} (hk : ∀ r m, (k r m).wf = true) (h : decRegMem k w = .ok i) :
    i.wf = true ∧ MemoryBits w ∧ (w.extractLsb' 16 5).toNat < 28 := by
  obtain ⟨m, hm, h⟩ := dec_bind.mp h
  obtain ⟨d, hd, h⟩ := dec_bind.mp h
  cases h
  exact ⟨hk d m, memOpOf_ok hm, regOf_ok hd⟩

theorem decRnMem_ok {k : Rn → MemOp → Instr} (hk : ∀ r m, (k r m).wf = true) (h : decRnMem k w = .ok i) :
    i.wf = true ∧ MemoryBits w ∧ (w.extractLsb' 16 5).toNat < 8 := by
  obtain ⟨m, hm, h⟩ := dec_bind.mp h
  obtain ⟨d, hd, h⟩ := dec_bind.mp h
  cases h
  exact ⟨hk d m, memOpOf_ok hm, rnOf_ok hd⟩

theorem decReg_ok {g : BitVec 2} {low : BitVec 16} {k : Reg → Instr} (hk : ∀ r, (k r).wf = true)
    (h : decReg g low k w = .ok i) :
    i.wf = true ∧ (w.extractLsb' 21 2 = g ∧ w.extractLsb' 0 16 = low) ∧ (w.extractLsb' 16 5).toNat < 28 := by
  unfold decReg at h
  split at h
  next hfixed =>
    obtain ⟨d, hd, h⟩ := dec_bind.mp h
    cases h
    exact ⟨hk d, hfixed, regOf_ok hd⟩
  next => cases h

theorem decRn_ok {g : BitVec 2} {low : BitVec 16} {k : Rn → Instr} (hk : ∀ r, (k r).wf = true)
    (h : decRn g low k w = .ok i) :
    i.wf = true ∧ (w.extractLsb' 21 2 = g ∧ w.extractLsb' 0 16 = low) ∧ (w.extractLsb' 16 5).toNat < 8 := by
  unfold decRn at h
  split at h
  next hfixed =>
    obtain ⟨d, hd, h⟩ := dec_bind.mp h
    cases h
    exact ⟨hk d, hfixed, rnOf_ok hd⟩
  next => cases h

/-- The parts of a field that is zero are zero. -/
theorem extractLsb'_zero_part {x : BitVec 32} {a n : Nat} (b m : Nat) (h : x.extractLsb' a n = 0#n) (hbm : b + m ≤ n) :
    x.extractLsb' (a + b) m = 0#m := by
  rw [← extractLsb'_extractLsb' x hbm, h]
  simp

theorem decTwoWords_ok {even odd : Instr} (hwf : even.wf = true ∧ odd.wf = true) (h : decTwoWords even odd w = .ok i) :
    i.wf = true ∧ w.extractLsb' 21 2 = 0#2 ∧ w.extractLsb' 16 5 = 0#5 ∧ (w.extractLsb' 0 16).toNat < 2 := by
  unfold decTwoWords at h
  split at h
  next hfill =>
    have hform := extractLsb'_zero_part 5 2 hfill (by decide)
    have hreg := extractLsb'_zero_part 0 5 hfill (by decide)
    split at h
    next hlow => cases h; exact ⟨hwf.1, hform, hreg, by omega⟩
    next hlow => cases h; exact ⟨hwf.2, hform, hreg, by omega⟩
    next => cases h
  next => cases h

theorem regOf_dp : ∀ b : BitVec 5, regOf b = .ok .dp → b = 0x10#5 := by decide

theorem srcOf_imm {k : BitVec 16} (h : srcOf (w.extractLsb' 21 2) (w.extractLsb' 0 16) = .ok (.imm k)) :
    w.extractLsb' 21 2 = 3#2 ∧ k = w.extractLsb' 0 16 := by
  unfold srcOf at h
  split at h
  next =>
    obtain ⟨b, -, h⟩ := dec_bind.mp h
    obtain ⟨r, -, h⟩ := dec_bind.mp h
    cases h
  next hg =>
    cases h
    exact ⟨BitVec.eq_of_toNat_eq hg, rfl⟩
  next =>
    obtain ⟨m, -, h⟩ := dec_bind.mp h
    cases h

/-- A load-immediate into DP of a page is the word of LDP (R113). -/
theorem ldpBits_of_isLdp {s : Src} {d : Reg} (hs : srcOf (w.extractLsb' 21 2) (w.extractLsb' 0 16) = .ok s)
    (hd : regOf (w.extractLsb' 16 5) = .ok d) (h : isLdp s d = true) : w.extractLsb' 8 15 = 0b111000000000000#15 := by
  unfold isLdp at h
  split at h
  next k =>
    obtain ⟨hform, rfl⟩ := srcOf_imm hs
    have hhi : w.extractLsb' 8 8 = 0#8 := by
      rw [beq_iff_eq, extractLsb'_extractLsb' _ (by decide)] at h
      exact h
    rw [← BitVec.extractLsb'_append_extractLsb'_eq_extractLsb' (start₁ := 8) (len₁ := 13) (len₂ := 2) rfl,
      ← BitVec.extractLsb'_append_extractLsb'_eq_extractLsb' (start₁ := 8) (len₁ := 8) (len₂ := 5) rfl,
      hform, regOf_dp _ hd, hhi]
    rfl
  next => cases h

theorem decLdi_ok (h : decLdi w = .ok i) :
    i.wf = true ∧ SourceBits w 28 ∧ (w.extractLsb' 16 5).toNat < 28 := by
  unfold decLdi at h
  split at h
  next hpage =>
    cases h
    have hform : w.extractLsb' 21 2 = 3#2 := by
      rw [← extractLsb'_extractLsb' w (a := 8) (n := 15) (b := 13) (m := 2) (by decide), hpage]
      rfl
    have hreg : w.extractLsb' 16 5 = 0x10#5 := by
      rw [← extractLsb'_extractLsb' w (a := 8) (n := 15) (b := 8) (m := 5) (by decide), hpage]
      rfl
    rw [SourceBits, hform, hreg]
    exact ⟨rfl, ⟨fun h0 => absurd h0 (by decide), fun h2 => absurd h2 (by decide)⟩, by decide⟩
  next hpage =>
    obtain ⟨s, hs, h⟩ := dec_bind.mp h
    obtain ⟨d, hd, h⟩ := dec_bind.mp h
    cases h
    refine ⟨?_, srcOf_ok hs, regOf_ok hd⟩
    rw [Instr.wf, Bool.not_eq_true', ← Bool.not_eq_true]
    exact fun hldp => hpage (ldpBits_of_isLdp hs hd hldp)

theorem decNop_ok (h : decNop w = .ok i) :
    i.wf = true ∧ ((w.extractLsb' 21 2).toNat = 0 ∧ w.extractLsb' 0 21 = 0#21 ∨
      (w.extractLsb' 21 2).toNat = 2 ∧ (w.extractLsb' 11 5).toNat < 26) := by
  unfold decNop at h
  split at h
  next hg =>
    split at h
    next hfill => cases h; exact ⟨rfl, .inl ⟨hg, hfill⟩⟩
    next => cases h
  next hg =>
    obtain ⟨x, hx, h⟩ := dec_bind.mp h
    cases h
    exact ⟨rfl, .inr ⟨hg, indirectOf16_ok hx⟩⟩
  next => cases h

theorem decRpts_ok (h : decRpts w = .ok i) : i.wf = true ∧ SourceBits w 28 ∧ w.extractLsb' 16 5 = 0x1B#5 := by
  unfold decRpts at h
  split at h
  next hrc =>
    obtain ⟨s, hs, h⟩ := dec_bind.mp h
    cases h
    exact ⟨rfl, srcOf_ok hs, hrc⟩
  next => cases h

theorem decIack_ok (h : decIack w = .ok i) : i.wf = true ∧ MemoryBits w ∧ w.extractLsb' 16 5 = 0#5 := by
  unfold decIack at h
  split at h
  next hfill =>
    obtain ⟨m, hm, h⟩ := dec_bind.mp h
    cases h
    exact ⟨rfl, memOpOf_ok hm, hfill⟩
  next => cases h

/-! ### Rows of format T (R114) -/

/-- The source fields of format T, whose registers are below `bound`. -/
def PairBits (w : Word) (bound : Nat) : Prop :=
  ThreeBits (w.extractLsb' 21 1) (w.extractLsb' 8 8) bound ∧ ThreeBits (w.extractLsb' 22 1) (w.extractLsb' 0 8) bound

theorem decT_ok {k : Src3 → Src3 → Reg → Instr} (hk : ∀ x y d, (k x y d).wf = (x.wf && y.wf)) (h : decT k w = .ok i) :
    i.wf = true ∧ PairBits w 28 ∧ (w.extractLsb' 16 5).toNat < 28 := by
  obtain ⟨x, hx, h⟩ := dec_bind.mp h
  obtain ⟨y, hy, h⟩ := dec_bind.mp h
  obtain ⟨d, hd, h⟩ := dec_bind.mp h
  cases h
  obtain ⟨hxwf, hx⟩ := src3Of_ok hx
  obtain ⟨hywf, hy⟩ := src3Of_ok hy
  exact ⟨by rw [hk, hxwf, hywf]; rfl, ⟨hx, hy⟩, regOf_ok hd⟩

theorem decTF_ok {k : FSrc3 → FSrc3 → Rn → Instr} (hk : ∀ x y d, (k x y d).wf = (x.wf && y.wf)) (h : decTF k w = .ok i) :
    i.wf = true ∧ PairBits w 8 ∧ (w.extractLsb' 16 5).toNat < 8 := by
  obtain ⟨x, hx, h⟩ := dec_bind.mp h
  obtain ⟨y, hy, h⟩ := dec_bind.mp h
  obtain ⟨d, hd, h⟩ := dec_bind.mp h
  cases h
  obtain ⟨hxwf, hx⟩ := fsrc3Of_ok hx
  obtain ⟨hywf, hy⟩ := fsrc3Of_ok hy
  exact ⟨by rw [hk, hxwf, hywf]; rfl, ⟨hx, hy⟩, rnOf_ok hd⟩

theorem decTNoDst_ok {k : Src3 → Src3 → Instr} (hk : ∀ x y, (k x y).wf = (x.wf && y.wf)) (h : decTNoDst k w = .ok i) :
    i.wf = true ∧ PairBits w 28 := by
  obtain ⟨x, hx, h⟩ := dec_bind.mp h
  obtain ⟨y, hy, h⟩ := dec_bind.mp h
  cases h
  obtain ⟨hxwf, hx⟩ := src3Of_ok hx
  obtain ⟨hywf, hy⟩ := src3Of_ok hy
  exact ⟨by rw [hk, hxwf, hywf]; rfl, hx, hy⟩

theorem decTFNoDst_ok {k : FSrc3 → FSrc3 → Instr} (hk : ∀ x y, (k x y).wf = (x.wf && y.wf)) (h : decTFNoDst k w = .ok i) :
    i.wf = true ∧ PairBits w 8 := by
  obtain ⟨x, hx, h⟩ := dec_bind.mp h
  obtain ⟨y, hy, h⟩ := dec_bind.mp h
  cases h
  obtain ⟨hxwf, hx⟩ := fsrc3Of_ok hx
  obtain ⟨hywf, hy⟩ := fsrc3Of_ok hy
  exact ⟨by rw [hk, hxwf, hywf]; rfl, hx, hy⟩

/-! ### Rows of the parallel formats (R120, R121) -/

/-- The two `mod` fields of a parallel instruction. -/
def ModBits (w : Word) : Prop := (w.extractLsb' 11 5).toNat < 26 ∧ (w.extractLsb' 3 5).toNat < 26

theorem modBits_of_ok {x y : Indirect} (hx : indirectOf8 (w.extractLsb' 8 8) = .ok x)
    (hy : indirectOf8 (w.extractLsb' 0 8) = .ok y) : (x.restricted = true ∧ y.restricted = true) ∧ ModBits w := by
  obtain ⟨hxr, hxm⟩ := indirectOf8_ok hx
  obtain ⟨hyr, hym⟩ := indirectOf8_ok hy
  simp (disch := decide) only [extractLsb'_extractLsb', Nat.zero_add, Nat.reduceAdd] at hxm hym
  exact ⟨⟨hxr, hyr⟩, hxm, hym⟩

theorem mulPairOf_ok {p : MulPair} (h : mulPairOf w = .ok p) : p.wf = true ∧ ModBits w := by
  obtain ⟨c, hc, h⟩ := dec_bind.mp h
  obtain ⟨d, hd, h⟩ := dec_bind.mp h
  obtain ⟨⟨hcr, hdr⟩, hbits⟩ := modBits_of_ok hc hd
  refine ⟨?_, hbits⟩
  dsimp only at h
  split at h <;> cases h <;>
    simp [MulPair.wf, MulPair.arranged, FSrc3.wf, hcr, hdr]

theorem decOne_ok {k : OneStore → Instr} (hk : ∀ p, (k p).wf = p.wf) (h : decOne k w = .ok i) :
    i.wf = true ∧ ModBits w ∧ w.extractLsb' 19 3 = 0#3 := by
  unfold decOne at h
  split at h
  next hfill =>
    obtain ⟨x, hx, h⟩ := dec_bind.mp h
    obtain ⟨y, hy, h⟩ := dec_bind.mp h
    cases h
    obtain ⟨⟨hxr, hyr⟩, hbits⟩ := modBits_of_ok hx hy
    exact ⟨by simp [hk, OneStore.wf, hxr, hyr], hbits, hfill⟩
  next => cases h

theorem decTwo_ok {k : TwoStore → Instr} (hk : ∀ p, (k p).wf = p.wf) (h : decTwo k w = .ok i) :
    i.wf = true ∧ ModBits w := by
  obtain ⟨x, hx, h⟩ := dec_bind.mp h
  obtain ⟨y, hy, h⟩ := dec_bind.mp h
  cases h
  obtain ⟨⟨hxr, hyr⟩, hbits⟩ := modBits_of_ok hx hy
  exact ⟨by simp [hk, TwoStore.wf, hxr, hyr], hbits⟩

theorem decStorePair_ok {k : StorePair → Instr} (hk : ∀ p, (k p).wf = p.wf) (h : decStorePair k w = .ok i) :
    i.wf = true ∧ ModBits w ∧ w.extractLsb' 19 3 = 0#3 := by
  unfold decStorePair at h
  split at h
  next hfill =>
    obtain ⟨x, hx, h⟩ := dec_bind.mp h
    obtain ⟨y, hy, h⟩ := dec_bind.mp h
    cases h
    obtain ⟨⟨hxr, hyr⟩, hbits⟩ := modBits_of_ok hx hy
    exact ⟨by simp [hk, StorePair.wf, hxr, hyr], hbits, hfill⟩
  next => cases h

theorem decLoadPair_ok {k : LoadPair → Instr} (hk : ∀ p, (k p).wf = p.wf) (h : decLoadPair k w = .ok i) :
    i.wf = true ∧ ModBits w ∧ w.extractLsb' 16 3 = 0#3 := by
  unfold decLoadPair at h
  split at h
  next hfill =>
    obtain ⟨x, hx, h⟩ := dec_bind.mp h
    obtain ⟨y, hy, h⟩ := dec_bind.mp h
    cases h
    obtain ⟨⟨hxr, hyr⟩, hbits⟩ := modBits_of_ok hx hy
    exact ⟨by simp [hk, LoadPair.wf, hxr, hyr], hbits, hfill⟩
  next => cases h

end Sys2Proof
end

section
/-! The words of each format that decode, row by row: what is built is well formed, and the bits are in range. -/
namespace Sys2Proof

variable {w : Word} {i : Instr}

/-! ### Format G -/

/-- What the bits of a word of format G that decodes are, by its operation number (R112, R113). -/
structure GBits (op : Nat) (w : Word) : Prop where
  assigned : op < 0x37
  dst : op ≠ 0x19 → (w.extractLsb' 16 5).toNat < 28
  src : SourceBits w 28
  rnDst : op ∈ [0, 3, 8, 11, 13, 14, 15, 18, 20, 23, 26, 29, 31, 34, 40, 41, 47, 50] → (w.extractLsb' 16 5).toNat < 8
  rnSrc : op ∈ [0, 3, 8, 10, 13, 14, 18, 20, 23, 26, 34, 47, 50] → SourceBits w 8
  mem : op ∈ [15, 17, 40, 41, 42, 43, 54] → MemoryBits w
  nop : op = 0x19 → (w.extractLsb' 21 2).toNat = 0 ∧ w.extractLsb' 0 21 = 0#21 ∨ (w.extractLsb' 21 2).toNat = 2
  words : op ∈ [0x0C, 0x21] → w.extractLsb' 21 2 = 0#2 ∧ w.extractLsb' 16 5 = 0#5 ∧ (w.extractLsb' 0 16).toNat < 2
  sigi : op = 0x2C → w.extractLsb' 0 23 = 0#23
  stack : op ∈ [0x1C, 0x1D, 0x1E, 0x1F] → w.extractLsb' 21 2 = 1#2 ∧ w.extractLsb' 0 16 = 0#16
  left : op ∈ [0x23, 0x24] → w.extractLsb' 21 2 = 3#2 ∧ w.extractLsb' 0 16 = 1#16
  right : op ∈ [0x25, 0x26] → w.extractLsb' 21 2 = 3#2 ∧ w.extractLsb' 0 16 = 0xFFFF#16
  rpts : op = 0x27 → w.extractLsb' 16 5 = 0x1B#5
  iack : op = 0x36 → w.extractLsb' 16 5 = 0#5

/-- The bounds of a register field at the low end of a word whose low part is zero but for one bit. -/
theorem sourceBits_of_low {n : Nat} (h : (w.extractLsb' 0 16).toNat < 2) (hn : 2 ≤ n)
    (hg : (w.extractLsb' 21 2).toNat ≠ 2) : SourceBits w n := by
  have hsrc : (w.extractLsb' 0 5).toNat < 2 ∧ (w.extractLsb' 5 11).toNat = 0 := by
    simp only [BitVec.extractLsb'_toNat, Nat.shiftRight_eq_div_pow] at h ⊢
    omega
  exact ⟨fun _ => ⟨BitVec.eq_of_toNat_eq hsrc.2, by omega⟩, fun h2 => absurd h2 hg⟩

theorem SourceBits.mono {m n : Nat} (h : SourceBits w m) (hmn : m ≤ n) : SourceBits w n :=
  ⟨fun h0 => ⟨(h.1 h0).1, (h.1 h0).2.trans_le hmn⟩, h.2⟩

theorem MemoryBits.sourceBits (h : MemoryBits w) (n : Nat) : SourceBits w n := by
  rcases h with hg | ⟨hg, hmod⟩
  · exact ⟨fun h0 => by omega, fun h2 => by omega⟩
  · exact ⟨fun h0 => by omega, fun _ => hmod⟩

theorem sourceBits_of_form {g : BitVec 2} (h : w.extractLsb' 21 2 = g) (hg : g.toNat = 1 ∨ g.toNat = 3) (n : Nat) :
    SourceBits w n := by
  rw [SourceBits, h]
  exact ⟨fun h0 => by omega, fun h2 => by omega⟩

/-- The rows with an integer source and destination. -/
theorem gBits_int {op : Nat} (hsrc : SourceBits w 28) (hdst : (w.extractLsb' 16 5).toNat < 28)
    (hop : op < 0x37 ∧ op ∉ [0, 3, 8, 10, 11, 12, 13, 14, 15, 17, 18, 20, 23, 25, 26, 28, 29, 30, 31, 33, 34, 35, 36, 37, 38,
      39, 40, 41, 42, 43, 44, 47, 50, 54]) : GBits op w := by
  simp only [List.mem_cons, List.not_mem_nil, or_false, not_or] at hop
  constructor <;> simp [hop, hsrc, hdst, -BitVec.extractLsb'_toNat]

/-- The rows with a float source and destination. -/
theorem gBits_flt {op : Nat} (hsrc : SourceBits w 8) (hdst : (w.extractLsb' 16 5).toNat < 8)
    (hop : op < 0x37 ∧ op ∉ [12, 15, 17, 25, 28, 29, 30, 31, 33, 35, 36, 37, 38, 39, 40, 41, 42, 43, 44, 54]) :
    GBits op w := by
  have hdst' : (w.extractLsb' 16 5).toNat < 28 := by omega
  simp only [List.mem_cons, List.not_mem_nil, or_false, not_or] at hop
  constructor <;> simp [hop, hsrc, hsrc.mono, hdst, hdst', -BitVec.extractLsb'_toNat]

theorem decodeG_ok (h : decodeG w = .ok i) : i.wf = true ∧ GBits (w.extractLsb' 23 6).toNat w := by
  unfold decodeG at h
  generalize (w.extractLsb' 23 6).toNat = op at h ⊢
  split at h
  case h_2 | h_3 | h_5 | h_6 | h_7 | h_8 | h_10 | h_20 | h_22 | h_23 | h_25 | h_28 | h_33 | h_46 | h_47 | h_49
    | h_50 | h_52 | h_53 | h_54 =>
    obtain ⟨hwf, hsrc, hdst⟩ := decInt_ok (fun _ _ => rfl) h
    exact ⟨hwf, gBits_int hsrc hdst (by decide)⟩
  case h_1 | h_4 | h_9 | h_14 | h_15 | h_19 | h_21 | h_24 | h_27 | h_35 | h_48 | h_51 =>
    obtain ⟨hwf, hsrc, hdst⟩ := decFlt_ok (fun _ _ => rfl) h
    exact ⟨hwf, gBits_flt hsrc hdst (by decide)⟩
  case h_11 =>
    obtain ⟨s, hs, h⟩ := dec_bind.mp h
    obtain ⟨d, hd, h⟩ := dec_bind.mp h
    cases h
    exact ⟨rfl, by
      constructor <;> simp [fsrcOf_ok hs, (fsrcOf_ok hs).mono, regOf_ok hd, -BitVec.extractLsb'_toNat]⟩
  case h_12 =>
    obtain ⟨s, hs, h⟩ := dec_bind.mp h
    obtain ⟨d, hd, h⟩ := dec_bind.mp h
    cases h
    have hdst := rnOf_ok hd
    have hdst' : (w.extractLsb' 16 5).toNat < 28 := by omega
    exact ⟨rfl, by constructor <;> simp [srcOf_ok hs, hdst, hdst', -BitVec.extractLsb'_toNat]⟩
  case h_13 | h_34 =>
    obtain ⟨hwf, hform, hreg, hlow⟩ := decTwoWords_ok ⟨rfl, rfl⟩ h
    have hsrc (n : Nat) (hn : 2 ≤ n) := sourceBits_of_low hlow hn (by rw [hform]; decide)
    exact ⟨hwf, by constructor <;> simp [hsrc, hform, hreg, hlow, -BitVec.extractLsb'_toNat]⟩
  case h_16 | h_41 | h_42 =>
    obtain ⟨hwf, hmem, hdst⟩ := decRnMem_ok (fun _ _ => rfl) h
    have hdst' : (w.extractLsb' 16 5).toNat < 28 := by omega
    exact ⟨hwf, by constructor <;> simp [hmem, hmem.sourceBits, hdst, hdst', -BitVec.extractLsb'_toNat]⟩
  case h_18 | h_43 | h_44 =>
    obtain ⟨hwf, hmem, hdst⟩ := decRegMem_ok (fun _ _ => rfl) h
    exact ⟨hwf, by constructor <;> simp [hmem, hmem.sourceBits, hdst, -BitVec.extractLsb'_toNat]⟩
  case h_17 =>
    obtain ⟨hwf, hsrc, hdst⟩ := decLdi_ok h
    exact ⟨hwf, by constructor <;> simp [hsrc, hdst, -BitVec.extractLsb'_toNat]⟩
  case h_26 =>
    obtain ⟨hwf, hbits⟩ := decNop_ok h
    have hsrc : SourceBits w 28 := by
      rcases hbits with ⟨hg, hfill⟩ | ⟨hg, hmod⟩
      · have hlow := extractLsb'_zero_part 0 16 hfill (by decide)
        rw [Nat.zero_add] at hlow
        exact sourceBits_of_low (by rw [hlow]; decide) (by decide) (by omega)
      · exact ⟨fun h0 => by omega, fun _ => hmod⟩
    exact ⟨hwf, by constructor <;> simp [hsrc, hbits.imp_right And.left, -BitVec.extractLsb'_toNat]⟩
  case h_29 | h_31 =>
    obtain ⟨hwf, ⟨hform, hlow⟩, hdst⟩ := decReg_ok (fun _ => rfl) h
    have hsrc := sourceBits_of_form hform (.inl rfl)
    exact ⟨hwf, by constructor <;> simp [hsrc, hform, hlow, hdst, -BitVec.extractLsb'_toNat]⟩
  case h_30 | h_32 =>
    obtain ⟨hwf, ⟨hform, hlow⟩, hdst⟩ := decRn_ok (fun _ => rfl) h
    have hsrc := sourceBits_of_form hform (.inl rfl)
    have hdst' : (w.extractLsb' 16 5).toNat < 28 := by omega
    exact ⟨hwf, by constructor <;> simp [hsrc, hform, hlow, hdst, hdst', -BitVec.extractLsb'_toNat]⟩
  case h_36 | h_37 | h_38 | h_39 =>
    obtain ⟨hwf, ⟨hform, hlow⟩, hdst⟩ := decReg_ok (fun _ => rfl) h
    have hsrc := sourceBits_of_form hform (.inr rfl)
    exact ⟨hwf, by constructor <;> simp [hsrc, hform, hlow, hdst, -BitVec.extractLsb'_toNat]⟩
  case h_40 =>
    obtain ⟨hwf, hsrc, hdst⟩ := decRpts_ok h
    exact ⟨hwf, by constructor <;> simp [hsrc, hdst, -BitVec.extractLsb'_toNat]⟩
  case h_45 =>
    split at h
    next hfill =>
      cases h
      have hlow := extractLsb'_zero_part 0 16 hfill (by decide)
      have hreg := extractLsb'_zero_part 16 5 hfill (by decide)
      have hform := extractLsb'_zero_part 21 2 hfill (by decide)
      simp only [Nat.zero_add] at hlow hreg hform
      have hsrc (n : Nat) (hn : 2 ≤ n) :=
        sourceBits_of_low (n := n) (by rw [hlow]; decide) hn (by rw [hform]; decide)
      exact ⟨rfl, by constructor <;> simp [hsrc, hreg, hfill, -BitVec.extractLsb'_toNat]⟩
    next => cases h
  case h_55 =>
    obtain ⟨hwf, hmem, hfill⟩ := decIack_ok h
    exact ⟨hwf, by constructor <;> simp [hmem, hmem.sourceBits, hfill, -BitVec.extractLsb'_toNat]⟩
  case h_56 => cases h

end Sys2Proof
end

section
/-! The words of the other formats that decode. -/
namespace Sys2Proof

variable {w : Word} {i : Instr}

/-! ### Format T -/

/-- What the bits of a word of format T that decodes are, by its operation number (R114). -/
structure TBits (op : Nat) (w : Word) : Prop where
  assigned : op < 0x11
  dst : op ∉ [6, 7, 15] → (w.extractLsb' 16 5).toNat < 28
  src : PairBits w 28
  rnDst : op ∈ [1, 9, 13] → (w.extractLsb' 16 5).toNat < 8
  rnSrc : op ∈ [1, 6, 9, 13] → PairBits w 8

theorem PairBits.widen (h : PairBits w 8) : PairBits w 28 :=
  ⟨⟨fun h0 => (h.1.1 h0).trans (by decide), h.1.2⟩, ⟨fun h0 => (h.2.1 h0).trans (by decide), h.2.2⟩⟩

theorem decodeT_ok (h : decodeT w = .ok i) : i.wf = true ∧ TBits (w.extractLsb' 23 6).toNat w := by
  unfold decodeT at h
  generalize (w.extractLsb' 23 6).toNat = op at h ⊢
  split at h
  case h_1 | h_3 | h_4 | h_5 | h_6 | h_9 | h_11 | h_12 | h_13 | h_15 | h_17 =>
    obtain ⟨hwf, hsrc, hdst⟩ := decT_ok (fun _ _ _ => rfl) h
    exact ⟨hwf, by constructor <;> simp [hsrc, hdst, -BitVec.extractLsb'_toNat]⟩
  case h_2 | h_10 | h_14 =>
    obtain ⟨hwf, hsrc, hdst⟩ := decTF_ok (fun _ _ _ => rfl) h
    have hdst' : (w.extractLsb' 16 5).toNat < 28 := by omega
    exact ⟨hwf, by constructor <;> simp [hsrc, hsrc.widen, hdst, hdst', -BitVec.extractLsb'_toNat]⟩
  case h_7 =>
    obtain ⟨hwf, hsrc⟩ := decTFNoDst_ok (fun _ _ => rfl) h
    exact ⟨hwf, by constructor <;> simp [hsrc, hsrc.widen]⟩
  case h_8 | h_16 =>
    obtain ⟨hwf, hsrc⟩ := decTNoDst_ok (fun _ _ => rfl) h
    exact ⟨hwf, by constructor <;> simp [hsrc]⟩
  case h_18 => cases h

/-! ### Conditional loads -/

/-- What the bits of a conditional load that decodes are (R116). -/
structure CBits (w : Word) : Prop where
  cond : (w.extractLsb' 23 5).toNat ≠ 11 ∧ (w.extractLsb' 23 5).toNat < 21
  dst : (w.extractLsb' 16 5).toNat < 28
  src : SourceBits w 28
  float : w.extractLsb' 28 1 = 0#1 → (w.extractLsb' 16 5).toNat < 8 ∧ SourceBits w 8

theorem decodeC_ok (h : decodeC w = .ok i) : i.wf = true ∧ CBits w := by
  obtain ⟨c, hc, h⟩ := dec_bind.mp h
  split at h
  next =>
    obtain ⟨hwf, hsrc, hdst⟩ := decFlt_ok (fun _ _ => rfl) h
    exact ⟨hwf, condOf_ok hc, hdst.trans (by decide), hsrc.mono (by decide), fun _ => ⟨hdst, hsrc⟩⟩
  next hk =>
    obtain ⟨hwf, hsrc, hdst⟩ := decInt_ok (fun _ _ => rfl) h
    exact ⟨hwf, condOf_ok hc, hdst, hsrc, fun h0 => absurd h0 hk⟩

/-! ### Branches, calls, traps and returns -/

/-- What the bits of a word with bits 31:29 = 011 that decodes are, by its bits 28:26 and 28:24 (R117 to R119). -/
structure BBits (branch op : Nat) (w : Word) : Prop where
  assigned : op ∉ [3, 5, 7, 28, 29, 30, 31]
  cond : 2 ≤ branch → (w.extractLsb' 16 5).toNat ≠ 11 ∧ (w.extractLsb' 16 5).toNat < 21
  reg : branch ∈ [2, 3, 4] → w.extractLsb' 25 1 = 0#1 → (w.extractLsb' 0 5).toNat < 28
  bcond : branch = 2 → w.extractLsb' 22 3 = 0#3
  call : branch = 4 → w.extractLsb' 21 4 = 0#4
  trap : branch = 5 → w.extractLsb' 21 5 = 0#5 ∧ w.extractLsb' 5 11 = 1#11
  ret : branch = 6 → (w.extractLsb' 21 5).toNat ∈ [0, 4] ∧ w.extractLsb' 0 16 = 0#16
  swi : op = 6 → w.extractLsb' 0 24 = 0#24

theorem branch_of_op (w : Word) : (w.extractLsb' 26 3).toNat = (w.extractLsb' 24 5).toNat / 4 := by
  simp only [BitVec.extractLsb'_toNat, Nat.shiftRight_eq_div_pow]
  omega

/-- The numbers of bits 28:24 that go with those of bits 28:26. -/
theorem assigned_of_branch {branch op : Nat} (hbranch : branch = op / 4) (h : 2 ≤ branch ∧ branch ≤ 6) :
    op ∉ [3, 5, 7, 28, 29, 30, 31] ∧ op ≠ 6 := by
  simp only [List.mem_cons, List.not_mem_nil, or_false, not_or]
  omega

/-- A branch or a call with its condition and operand. -/
theorem branch_ok {k : Cond → Csrc → Instr}
    (h : ((condOf (w.extractLsb' 16 5)).bind fun c => (decCsrc w).bind fun x => .ok (k c x)) = .ok i)
    (hk : ∀ c x, (k c x).wf = true) :
    i.wf = true ∧ ((w.extractLsb' 16 5).toNat ≠ 11 ∧ (w.extractLsb' 16 5).toNat < 21) ∧
      (w.extractLsb' 25 1 = 0#1 → (w.extractLsb' 0 5).toNat < 28) := by
  obtain ⟨c, hc, h⟩ := dec_bind.mp h
  obtain ⟨x, hx, h⟩ := dec_bind.mp h
  cases h
  exact ⟨hk c x, condOf_ok hc, csrcOf_ok hx⟩

/-- A trap or a return with its condition. -/
theorem condition_ok {k : Cond → Instr} (h : ((condOf (w.extractLsb' 16 5)).bind fun c => .ok (k c)) = .ok i)
    (hk : ∀ c, (k c).wf = true) :
    i.wf = true ∧ (w.extractLsb' 16 5).toNat ≠ 11 ∧ (w.extractLsb' 16 5).toNat < 21 := by
  obtain ⟨c, hc, h⟩ := dec_bind.mp h
  cases h
  exact ⟨hk c, condOf_ok hc⟩

theorem decodeB_ok (h : decodeB w = .ok i) :
    i.wf = true ∧ BBits (w.extractLsb' 26 3).toNat (w.extractLsb' 24 5).toNat w := by
  unfold decodeB at h
  have hbranch := branch_of_op w
  generalize (w.extractLsb' 26 3).toNat = branch at h hbranch ⊢
  generalize (w.extractLsb' 24 5).toNat = op at h hbranch ⊢
  split at h
  case h_1 =>
    obtain ⟨hop, hswi⟩ := assigned_of_branch hbranch (by decide)
    split at h
    next hfill =>
      obtain ⟨hwf, hc, hx⟩ := branch_ok h fun c x => by split <;> rfl
      exact ⟨hwf, by constructor <;> first | exact fun _ => hx | simp [hop, hswi, hc, hfill, -BitVec.extractLsb'_toNat]⟩
    next => cases h
  case h_2 =>
    obtain ⟨hop, hswi⟩ := assigned_of_branch hbranch (by decide)
    obtain ⟨hwf, hc, hx⟩ := branch_ok h fun c x => by split <;> rfl
    exact ⟨hwf, by constructor <;> first | exact fun _ => hx | simp [hop, hswi, hc, -BitVec.extractLsb'_toNat]⟩
  case h_3 =>
    obtain ⟨hop, hswi⟩ := assigned_of_branch hbranch (by decide)
    split at h
    next hfill =>
      obtain ⟨hwf, hc, hx⟩ := branch_ok h fun _ _ => rfl
      exact ⟨hwf, by constructor <;> first | exact fun _ => hx | simp [hop, hswi, hc, hfill, -BitVec.extractLsb'_toNat]⟩
    next => cases h
  case h_4 =>
    obtain ⟨hop, hswi⟩ := assigned_of_branch hbranch (by decide)
    split at h
    next hfill =>
      obtain ⟨hwf, hc⟩ := condition_ok h fun _ => rfl
      exact ⟨hwf, by constructor <;> simp [hop, hswi, hc, hfill, -BitVec.extractLsb'_toNat]⟩
    next => cases h
  case h_5 =>
    obtain ⟨hop, hswi⟩ := assigned_of_branch hbranch (by decide)
    split at h
    next hlow =>
      split at h
      next hkind =>
        obtain ⟨hwf, hc⟩ := condition_ok h fun _ => rfl
        exact ⟨hwf, by constructor <;> simp [hop, hswi, hc, hlow, hkind, -BitVec.extractLsb'_toNat]⟩
      next hkind =>
        obtain ⟨hwf, hc⟩ := condition_ok h fun _ => rfl
        exact ⟨hwf, by constructor <;> simp [hop, hswi, hc, hlow, hkind, -BitVec.extractLsb'_toNat]⟩
      next => cases h
    next => cases h
  case h_6 =>
    have hlong : ∀ n, n ∈ [0, 1, 2, 4, 6] → op = n → branch = 0 ∨ branch = 1 := by
      simp only [List.mem_cons, List.not_mem_nil, or_false]
      omega
    split at h
    case h_1 | h_2 | h_3 | h_4 =>
      cases h
      exact ⟨rfl, by constructor <;> rcases hlong _ (by decide) rfl with hb | hb <;> simp [hb]⟩
    case h_5 =>
      split at h
      next hfill =>
        cases h
        exact ⟨rfl, by constructor <;> rcases hlong _ (by decide) rfl with hb | hb <;> simp [hb, hfill]⟩
      next => cases h
    case h_6 => cases h

/-! ### The parallel formats -/

theorem decodeM_ok (h : decodeM w = .ok i) : i.wf = true ∧ ModBits w ∧ (w.extractLsb' 26 4).toNat < 4 := by
  unfold decodeM at h
  split at h
  case h_5 => cases h
  all_goals
    obtain ⟨p, hp, h⟩ := dec_bind.mp h
    cases h
    exact ⟨(mulPairOf_ok hp).1, (mulPairOf_ok hp).2, by omega⟩

/-- What the bits of another parallel word that decodes are, by its operation number (R121). -/
structure SBits (op : Nat) (w : Word) : Prop where
  assigned : op < 0x18
  mod : ModBits w
  src1 : op ∈ [0, 1, 4, 5, 10, 11, 12, 13, 17, 18, 19] → w.extractLsb' 19 3 = 0#3
  src3 : op ∈ [2, 3] → w.extractLsb' 16 3 = 0#3

theorem decodeS_ok (h : decodeS w = .ok i) : i.wf = true ∧ SBits (w.extractLsb' 25 5).toNat w := by
  unfold decodeS at h
  generalize (w.extractLsb' 25 5).toNat = op at h ⊢
  split at h
  case h_1 | h_2 =>
    obtain ⟨hwf, hmod, hfill⟩ := decStorePair_ok (fun _ => rfl) h
    exact ⟨hwf, by constructor <;> simp [hmod, hfill]⟩
  case h_3 | h_4 =>
    obtain ⟨hwf, hmod, hfill⟩ := decLoadPair_ok (fun _ => rfl) h
    exact ⟨hwf, by constructor <;> simp [hmod, hfill]⟩
  case h_5 | h_6 | h_11 | h_12 | h_13 | h_14 | h_18 | h_19 | h_20 =>
    obtain ⟨hwf, hmod, hfill⟩ := decOne_ok (fun _ => rfl) h
    exact ⟨hwf, by constructor <;> simp [hmod, hfill]⟩
  case h_7 | h_8 | h_9 | h_10 | h_15 | h_16 | h_17 | h_21 | h_22 | h_23 | h_24 =>
    obtain ⟨hwf, hmod⟩ := decTwo_ok (fun _ => rfl) h
    exact ⟨hwf, by constructor <;> simp [hmod]⟩
  case h_25 => cases h

/-! ### The obligation -/

/-- Settles O3: each format builds only operands that its instructions allow. -/
theorem decodedIsWellFormed : Obligations.DecodedIsWellFormed := by
  unfold Obligations.DecodedIsWellFormed
  intro w i h
  unfold decode at h
  split at h
  · exact (decodeG_ok h).1
  · exact (decodeT_ok h).1
  · exact (decodeC_ok h).1
  · exact (decodeB_ok h).1
  · exact (decodeM_ok h).1
  · exact (decodeM_ok h).1
  · exact (decodeS_ok h).1

end Sys2Proof
end

section
/-! A step of a CPU that does not wait and takes no interrupt: the fetch, and the instruction fetched (R351, R39, R75). -/
namespace Sys2Proof.Machine

/-- A step that neither waits nor can take an interrupt fetches and executes. -/
theorem step_eq_fetchExec {s : State} (hw : (sampleInputs s).waiting = none) (ht : (sampleInputs s).takeable = none) :
    step s = fetchExec (sampleInputs s) := by
  simp only [step, advance, hw, runNext, ht, decideInterrupt]

theorem fetchExec_of_fetch {s s1 : State} (h : s.pend = none ∨ s.atRepeatEnd = false) (hf : fetch s = .ok s1) :
    fetchExec s = execWord s1 := by
  have hcond : (s.pend.isSome && s.atRepeatEnd) = false := by rcases h with h | h <;> simp [h]
  simp [fetchExec, hcond, hf]

/-- The state after the fetch of the word w at `pc`, whose read leaves s1. -/
def State.fetched (s s1 : State) (w : Word) : State := { s1 with ir := w, ran := noteAddr s.pc.toNat s.ran }

theorem fetchWord_ok {s s1 : State} {w : Word} (hs : s.pc.toNat ∉ s.stored) (h : memRead s.pc s = .ok (w, s1)) :
    fetchWord s = .ok (s.fetched s1 w) := by
  obtain ⟨d, rfl⟩ := memRead_frame h
  simp [fetchWord, hs, h, State.fetched]

theorem execWord_of_decode {s : State} {i : Instr} (h : decode s.ir = .ok i) : execWord s = exec i s := by
  simp [execWord, h]

theorem execWord_of_no_instruction {s : State} (h : ∀ i, decode s.ir ≠ .ok i) : execWord s = .refused .illegalWord := by
  unfold execWord
  split
  · rfl
  next i hi => exact absurd hi (h i)

theorem fetch_of_off {s s1 : State} {w : Word} (hoff : s.rpts = .off) (hs : s.pc.toNat ∉ s.stored)
    (h : memRead s.pc s = .ok (w, s1)) : fetch s = .ok (s.fetched s1 w) := by
  rw [fetch, hoff]
  exact fetchWord_ok hs h

theorem fetch_of_armed {s s1 : State} {w : Word} (harmed : s.rpts = .armed) (hs : s.pc.toNat ∉ s.stored)
    (h : memRead s.pc s = .ok (w, s1)) : fetch s = .ok { s.fetched s1 w with rpts := .looping } := by
  simp only [fetch, harmed, fetchWord_ok hs h, ok_bind]

theorem fetch_of_looping {s : State} (h : s.rpts = .looping) : fetch s = .ok s := by
  rw [fetch, h]

theorem fetch_of_stored {s : State} (h : s.pc.toNat ∈ s.stored) (hl : s.rpts ≠ .looping) :
    fetch s = .error .storedInstruction := by
  have hword : fetchWord s = .error .storedInstruction := by simp [fetchWord, h, refuse]
  unfold fetch
  split
  · contradiction
  · simp [hword]
  · exact hword

/-- Settles O5: each phase of RPTS has its own fetch. -/
theorem stepRunsTheDecodedInstruction : Obligations.StepRunsTheDecodedInstruction := by
  unfold Obligations.StepRunsTheDecodedInstruction
  intro s i s0 fetched hwait htake hpend
  have hstep {s1 : State} (hf : fetch s0 = .ok s1) (hd : decode s1.ir = .ok i) : step s = exec i s1 := by
    rw [step_eq_fetchExec hwait htake, fetchExec_of_fetch hpend hf, execWord_of_decode hd]
  refine ⟨fun hs w s1 hread hdec => ⟨fun hoff => ?_, fun harmed => ?_⟩, fun hl hdec => ?_, fun hs hl => ?_⟩
  · exact hstep (fetch_of_off hoff hs hread) hdec
  · exact hstep (fetch_of_armed harmed hs hread) hdec
  · exact hstep (fetch_of_looping hl) hdec
  · have hcond : (s0.pend.isSome && s0.atRepeatEnd) = false := by rcases hpend with h | h <;> simp [h]
    rw [step_eq_fetchExec hwait htake, fetchExec, hcond, fetch_of_stored hs hl]
    rfl

end Sys2Proof.Machine
end

section
/-! A word whose bits are out of range in some field does not decode, and a step that fetches it is refused. -/
namespace Sys2Proof

variable {w : Word} {i : Instr}

/-- What the bits of a word that decodes are, by its bits 31:29. -/
structure WordBits (w : Word) : Prop where
  g : (w.extractLsb' 29 3).toNat = 0 → GBits (w.extractLsb' 23 6).toNat w
  t : (w.extractLsb' 29 3).toNat = 1 → TBits (w.extractLsb' 23 6).toNat w
  c : (w.extractLsb' 29 3).toNat = 2 → CBits w
  b : (w.extractLsb' 29 3).toNat = 3 → BBits (w.extractLsb' 26 3).toNat (w.extractLsb' 24 5).toNat w
  m : 4 ≤ (w.extractLsb' 29 3).toNat → (w.extractLsb' 29 3).toNat ≤ 5 → ModBits w ∧ (w.extractLsb' 26 4).toNat < 4
  s : 6 ≤ (w.extractLsb' 29 3).toNat → SBits (w.extractLsb' 25 5).toNat w

theorem wordBits_of_decode (h : decode w = .ok i) : WordBits w := by
  unfold decode at h
  constructor <;> intro htop
  · rw [htop] at h
    exact (decodeG_ok h).2
  · rw [htop] at h
    exact (decodeT_ok h).2
  · rw [htop] at h
    exact (decodeC_ok h).2
  · rw [htop] at h
    exact (decodeB_ok h).2
  · intro htop'
    obtain h4 | h5 : (w.extractLsb' 29 3).toNat = 4 ∨ (w.extractLsb' 29 3).toNat = 5 := by omega
    · rw [h4] at h
      exact (decodeM_ok h).2
    · rw [h5] at h
      exact (decodeM_ok h).2
  · obtain h6 | h7 : (w.extractLsb' 29 3).toNat = 6 ∨ (w.extractLsb' 29 3).toNat = 7 := by omega
    · rw [h6] at h
      exact (decodeS_ok h).2
    · rw [h7] at h
      exact (decodeS_ok h).2

theorem extractLsb'_one_eq_zero {k : Nat} : w.extractLsb' k 1 = 0#1 ↔ w.getLsbD k = false := by
  rw [BitVec.getLsbD_eq_extractLsb', beq_eq_false_iff_ne]
  generalize w.extractLsb' k 1 = b
  revert b
  decide

theorem PairBits.src1 {n : Nat} (h : PairBits w n) (h0 : w.getLsbD 21 = false) : (w.extractLsb' 8 5).toNat < n := by
  simpa (disch := decide) only [extractLsb'_extractLsb', Nat.add_zero] using h.1.1 (extractLsb'_one_eq_zero.mpr h0)

theorem PairBits.src2 {n : Nat} (h : PairBits w n) (h0 : w.getLsbD 22 = false) : (w.extractLsb' 0 5).toNat < n := by
  simpa (disch := decide) only [extractLsb'_extractLsb', Nat.add_zero] using h.2.1 (extractLsb'_one_eq_zero.mpr h0)

theorem PairBits.mod1 {n : Nat} (h : PairBits w n) (h1 : w.getLsbD 21 = true) : (w.extractLsb' 11 5).toNat < 26 := by
  have hbit : w.extractLsb' 21 1 ≠ 0#1 := fun h0 => by
    rw [extractLsb'_one_eq_zero.mp h0] at h1
    cases h1
  simpa (disch := decide) only [extractLsb'_extractLsb', Nat.reduceAdd] using h.1.2 hbit

theorem PairBits.mod2 {n : Nat} (h : PairBits w n) (h1 : w.getLsbD 22 = true) : (w.extractLsb' 3 5).toNat < 26 := by
  have hbit : w.extractLsb' 22 1 ≠ 0#1 := fun h0 => by
    rw [extractLsb'_one_eq_zero.mp h0] at h1
    cases h1
  simpa (disch := decide) only [extractLsb'_extractLsb', Nat.reduceAdd] using h.2.2 hbit

theorem MemoryBits.form (h : MemoryBits w) : (w.extractLsb' 21 2).toNat = 1 ∨ (w.extractLsb' 21 2).toNat = 2 :=
  h.imp_right And.left

end Sys2Proof

namespace Sys2Proof.Machine

/-- Settles O4: each disjunct contradicts the range of one field of a word that decodes; the step stops after its fetch. -/
theorem wordsThatAreNoInstruction : Obligations.WordsThatAreNoInstruction := by
  unfold Obligations.WordsThatAreNoInstruction
  refine ⟨?_, fun s w s1 hwait htake hpend hoff hstored hread hdec => ?_⟩
  case refine_2 =>
    have hfetch := fetch_of_off hoff hstored hread
    rw [step_eq_fetchExec hwait htake, fetchExec_of_fetch hpend hfetch]
    exact execWord_of_no_instruction hdec
  intro w top op form dst src src1 low hi lo branch badCond hbad i hdec
  have h := wordBits_of_decode hdec
  have toNat_eq {n : Nat} {x y : BitVec n} (hxy : x = y) : x.toNat = y.toNat := congrArg _ hxy
  have bit0 {k : Nat} := (extractLsb'_one_eq_zero (w := w) (k := k)).mpr
  dsimp only [badCond] at hbad
  rcases hbad with ⟨ht, hb⟩ | ⟨ht, hb⟩ | ⟨ht, hb⟩ | ⟨ht, ht', hb⟩ | ⟨ht, hb⟩ | hbad
  · exact absurd (h.g ht).assigned (by omega)
  · exact absurd (h.t ht).assigned (by omega)
  · exact (h.b ht).assigned hb
  · exact absurd (h.m ht ht').2 (by omega)
  · exact absurd (h.s ht).assigned (by omega)
  -- conditions
  rcases hbad with ⟨ht, hb⟩ | ⟨ht, hbr, hb⟩ | hbad
  · exact absurd (h.c ht).cond (by omega)
  · exact absurd ((h.b ht).cond hbr) (by omega)
  -- registers
  rcases hbad with ⟨ht, hop, hb⟩ | ⟨ht, hop, hb⟩ | ⟨ht, hb⟩ | ⟨ht, hf, hb⟩ | ⟨ht, h0, hb⟩ | ⟨ht, h0, hb⟩ |
    ⟨ht, hbr, h0, hb⟩ | hbad
  · exact absurd ((h.g ht).dst hop) (by omega)
  · exact absurd ((h.t ht).dst hop) (by omega)
  · exact absurd (h.c ht).dst (by omega)
  · obtain ⟨hfill, hsrc⟩ := (ht.elim (fun ht => (h.g ht).src) (fun ht => (h.c ht).src)).1 hf
    exact hb.elim (fun hb => hb hfill) (fun hb => by omega)
  · exact absurd ((h.t ht).src.src1 h0) (by omega)
  · exact absurd ((h.t ht).src.src2 h0) (by omega)
  · exact absurd ((h.b ht).reg hbr (bit0 h0)) (by omega)
  -- registers of float instructions
  rcases hbad with ⟨ht, hop, hb⟩ | ⟨ht, hf, hop, hb⟩ | ⟨ht, hop, hb⟩ | ⟨ht, hop, ⟨h0, hb⟩ | ⟨h0, hb⟩⟩ |
    ⟨ht, h0, hb | ⟨hf, hb⟩⟩ | hbad
  · exact absurd ((h.g ht).rnDst hop) (by omega)
  · exact absurd (((h.g ht).rnSrc hop).1 hf).2 (by omega)
  · exact absurd ((h.t ht).rnDst hop) (by omega)
  · exact absurd (((h.t ht).rnSrc hop).src1 h0) (by omega)
  · exact absurd (((h.t ht).rnSrc hop).src2 h0) (by omega)
  · exact absurd ((h.c ht).float (bit0 h0)).1 (by omega)
  · exact absurd (((h.c ht).float (bit0 h0)).2.1 hf).2 (by omega)
  -- indirect forms
  rcases hbad with ⟨ht, hf, hb⟩ | ⟨ht, hf, hb⟩ | ⟨ht, h1, hb⟩ | ⟨ht, h1, hb⟩ | ⟨ht, hb⟩ | hbad
  · exact absurd ((h.g ht).src.2 hf) (by omega)
  · exact absurd ((h.c ht).src.2 hf) (by omega)
  · exact absurd ((h.t ht).src.mod1 h1) (by omega)
  · exact absurd ((h.t ht).src.mod2 h1) (by omega)
  · obtain ⟨hhi, hlo⟩ : ModBits w := by
      by_cases ht' : top ≤ 5
      · exact (h.m ht ht').1
      · exact (h.s (by omega)).mod
    omega
  -- operands that must be in memory
  rcases hbad with ⟨ht, hop, hb⟩ | ⟨ht, hop, hb⟩ | hbad
  · exact absurd ((h.g ht).mem hop).form (by omega)
  · exact absurd ((h.g ht).nop hop) (by omega)
  -- bits that the formats fix
  rcases hbad with ⟨ht, hop, hb⟩ | ⟨ht, hop, hb⟩ | ⟨ht, hop, hf, hb⟩ | ⟨ht, hop, hb⟩ | ⟨ht, hop, hb⟩ | ⟨ht, hop, hb⟩ |
    ⟨ht, hop, hb⟩ | ⟨ht, hop, hb⟩ | hbad
  · obtain ⟨hform, hreg, hlow⟩ := (h.g ht).words hop
    have hform : form = 0 := toNat_eq hform
    have hreg : dst = 0 := toNat_eq hreg
    omega
  · have hfill := (h.g ht).sigi hop
    have hform : form = 0 := toNat_eq (extractLsb'_zero_part 21 2 hfill (by decide))
    have hreg : dst = 0 := toNat_eq (extractLsb'_zero_part 16 5 hfill (by decide))
    have hlow : low = 0 := toNat_eq (extractLsb'_zero_part 0 16 hfill (by decide))
    omega
  · obtain ⟨-, hfill⟩ | hform := (h.g ht).nop hop
    · have hreg : dst = 0 := toNat_eq (extractLsb'_zero_part 16 5 hfill (by decide))
      have hlow : low = 0 := toNat_eq (extractLsb'_zero_part 0 16 hfill (by decide))
      omega
    · omega
  · obtain ⟨hform, hlow⟩ := (h.g ht).stack hop
    have hform : form = 1 := toNat_eq hform
    have hlow : low = 0 := toNat_eq hlow
    omega
  · obtain ⟨hform, hlow⟩ := (h.g ht).left hop
    have hform : form = 3 := toNat_eq hform
    have hlow : low = 1 := toNat_eq hlow
    omega
  · obtain ⟨hform, hlow⟩ := (h.g ht).right hop
    have hform : form = 3 := toNat_eq hform
    have hlow : low = 0xFFFF := toNat_eq hlow
    omega
  · exact hb (toNat_eq ((h.g ht).rpts hop))
  · exact hb (toNat_eq ((h.g ht).iack hop))
  rcases hbad with ⟨ht, hbr, hb⟩ | ⟨ht, hbr, hb⟩ | ⟨ht, hbr, hb⟩ | ⟨ht, hbr, hb⟩ | ⟨ht, hop, hb⟩ | ⟨ht, hop, hb⟩ |
    ⟨ht, hop, hb⟩
  · exact hb ((h.b ht).bcond hbr)
  · exact hb ((h.b ht).call hbr)
  · exact hb.elim (fun hb => hb ((h.b ht).trap hbr).1) (fun hb => hb ((h.b ht).trap hbr).2)
  · exact hb.elim (fun hb => hb ((h.b ht).ret hbr).1) (fun hb => hb (toNat_eq ((h.b ht).ret hbr).2))
  · exact hb ((h.b ht).swi hop)
  · exact hb ((h.s ht).src1 hop)
  · exact hb ((h.s ht).src3 hop)

end Sys2Proof.Machine
end

section
/-!
How far an instruction's operands, results and stores can take the state (R10 to R13, R65, R69, R424): the relation `Work`
and its rule for each operation. `may` and `addr` say which registers and which words may change.
-/
namespace Sys2Proof.Machine

/-! ### The parts of the state -/

/-- The lines the CPU drives, with their history, and the clock (R38, R40, R42, R525). -/
structure Lines where
  xf0   : Bool
  lock  : Bool
  iack  : Bool
  clock : ClockMode
  trace : List LineEvent

def State.lines (s : State) : Lines := ⟨s.xf0, s.lock, s.iack, s.clock, s.trace⟩

def Lines.driveXf0 (l : Lines) (b : Bool) : Lines :=
  { l with xf0 := b, lock := if b then false else l.lock, trace := .xf0 b :: l.trace }

def Lines.acquire (l : Lines) : Lines := { l with lock := true }

def Lines.driveIack (l : Lines) (b : Bool) : Lines := { l with iack := b, trace := .iack b :: l.trace }

/-- What no operand, result or store changes: the program counter and what decides where to go on, the inputs, the program
and the parameters. -/
def State.fixedPart (s : State) : State :=
  { State.reset with
    pc := s.pc, ir := s.ir, rpts := s.rpts, pend := s.pend, sources := s.sources, ran := s.ran, xf1 := s.xf1,
    rdyInt := s.rdyInt, xrdyInt := s.xrdyInt, env := s.env, params := s.params, ie := s.ie, ifr := s.ifr, iof := s.iof }

/-- From s the state u has been reached: only registers of `may` and words of `addr` have changed, no word of the program
has, and the lines are now l and the status register st. -/
structure Work (may : Reg → Prop) (addr : Addr → Prop) (l : Lines) (st : Status) (s u : State) : Prop where
  regs : ∀ r, r ≠ .st → ¬ may r → u.contents r = s.contents r
  mem : ∀ a : Addr, ¬ addr a → u.mem.read a.toNat = s.mem.read a.toNat
  program : ∀ a : Addr, s.inProgram a = true → u.mem.read a.toNat = s.mem.read a.toNat
  canonical : s.mem.wf = true → u.mem.wf = true
  stored : ∀ n ∈ s.stored, n ∈ u.stored
  newStored : ∀ n ∈ u.stored, n ∈ s.stored ∨ n ∉ s.ran
  between : u.between = s.between ∨ u.between = []
  agents : ∀ p ∈ u.between, addr p.1
  draws : s.draws ≤ u.draws
  waiting : u.waiting = s.waiting ∨ u.waiting = none
  fixed : u.fixedPart = s.fixedPart
  lines : u.lines = l
  status : u.st = st

section rules

variable {may : Reg → Prop} {addr : Addr → Prop} {l : Lines} {st : Status} {s u v : State}

theorem Work.refl (may : Reg → Prop) {addr : Addr → Prop} {s : State} (h : ∀ p ∈ s.between, addr p.1) :
    Work may addr s.lines s.st s s where
  regs := fun _ _ _ => rfl
  mem := fun _ _ => rfl
  program := fun _ _ => rfl
  canonical := id
  stored := fun _ hn => hn
  newStored := fun _ hn => .inl hn
  between := .inl rfl
  agents := h
  draws := le_rfl
  waiting := .inl rfl
  fixed := rfl
  lines := rfl
  status := rfl

theorem Work.field (h : Work may addr l st s u) {α : Type} (f : State → α) : f u.fixedPart = f s.fixedPart :=
  congrArg f h.fixed

theorem Work.params (h : Work may addr l st s u) : u.params = s.params := h.field State.params

theorem Work.pc (h : Work may addr l st s u) : u.pc = s.pc := h.field State.pc

theorem Work.pend (h : Work may addr l st s u) : u.pend = s.pend := h.field State.pend

theorem Work.rpts (h : Work may addr l st s u) : u.rpts = s.rpts := h.field State.rpts

theorem Work.ran (h : Work may addr l st s u) : u.ran = s.ran := h.field State.ran

theorem Work.sources (h : Work may addr l st s u) : u.sources = s.sources := h.field State.sources

theorem Work.inProgram (h : Work may addr l st s u) (a : Addr) : u.inProgram a = s.inProgram a := by
  rw [State.inProgram, State.inProgram, h.ran, h.params]

/-- A step of the work that leaves memory, and the inputs of other agents, as they are. -/
theorem Work.of_regs (h : Work may addr l st s u) {l' : Lines} {st' : Status}
    (hregs : ∀ r, r ≠ .st → ¬ may r → v.contents r = u.contents r)
    (hmem : v.mem = u.mem) (hstored : v.stored = u.stored) (hbetween : v.between = u.between) (hdraws : u.draws ≤ v.draws)
    (hwaiting : v.waiting = u.waiting ∨ v.waiting = none) (hfixed : v.fixedPart = u.fixedPart) (hlines : v.lines = l')
    (hstatus : v.st = st') : Work may addr l' st' s v where
  regs := fun r hr hm => (hregs r hr hm).trans (h.regs r hr hm)
  mem := hmem ▸ h.mem
  program := hmem ▸ h.program
  canonical := hmem ▸ h.canonical
  stored := hstored ▸ h.stored
  newStored := hstored ▸ h.newStored
  between := hbetween ▸ h.between
  agents := hbetween ▸ h.agents
  draws := h.draws.trans hdraws
  waiting := hwaiting.elim (fun hw => hw ▸ h.waiting) .inr
  fixed := hfixed.trans h.fixed
  lines := hlines
  status := hstatus

/-! ### Registers -/

theorem Work.setR (h : Work may addr l st s u) {n : Rn} (hn : may (.r n)) (x : Ext) : Work may addr l st s (u.setR n x) := by
  refine h.of_regs (fun r _ hr => ?_) rfl rfl rfl le_rfl (.inl rfl) rfl h.lines h.status
  cases r with
  | r m =>
    have hnm : n ≠ m := fun he => hr (he ▸ hn)
    simp [State.contents, hnm]
  | _ => rfl

theorem Work.setAr (h : Work may addr l st s u) {n : ARn} (hn : may (.ar n)) (x : Word) :
    Work may addr l st s (u.setAr n x) := by
  refine h.of_regs (fun r _ hr => ?_) rfl rfl rfl le_rfl (.inl rfl) rfl h.lines h.status
  cases r with
  | ar m =>
    have hnm : n ≠ m := fun he => hr (he ▸ hn)
    simp [State.contents, hnm]
  | _ => rfl

theorem Work.setSp (h : Work may addr l st s u) (hsp : may .sp) (x : Word) : Work may addr l st s (u.setSp x) := by
  refine h.of_regs (fun r _ hr => ?_) rfl rfl rfl le_rfl (.inl rfl) rfl h.lines h.status
  cases r with
  | sp => exact absurd hsp hr
  | _ => rfl

theorem Work.setSt (h : Work may addr l st s u) (st' : Status) : Work may addr l st' s (u.setSt st') := by
  refine h.of_regs (fun r hst _ => ?_) rfl rfl rfl le_rfl (.inl rfl) rfl h.lines rfl
  cases r with
  | st => exact absurd rfl hst
  | _ => rfl

theorem Work.draw (h : Work may addr l st s u) {d : Nat} (hd : u.draws ≤ d) :
    Work may addr l st s { u with draws := d } :=
  h.of_regs (fun r _ _ => by cases r <;> rfl) rfl rfl rfl hd (.inl rfl) rfl h.lines h.status

theorem Work.tick (h : Work may addr l st s u) : Work may addr l st s u.tick := h.draw (Nat.le_succ _)

/-- A register write: a status register that it writes has OVM clear (R34). -/
theorem Work.writeInt (h : Work may addr l st s u) {r : Reg} {x : Word} (hw : writeInt r x u = .ok v) (hr : may r) :
    ∃ st', Work may addr l st' s v ∧ (r ≠ .st → st' = st) ∧ (r = .st → st'.ovm = false) := by
  cases r with
  | r n =>
    cases hw
    exact ⟨st, h.setR hr _, fun _ => rfl, fun he => by cases he⟩
  | ar n =>
    cases hw
    exact ⟨st, h.setAr hr _, fun _ => rfl, fun he => by cases he⟩
  | sp =>
    cases hw
    exact ⟨st, h.setSp hr _, fun _ => rfl, fun he => by cases he⟩
  | st =>
    simp only [Machine.writeInt] at hw
    split at hw
    · cases hw
    next hovm =>
      cases hw
      exact ⟨_, h.setSt _, fun hne => absurd rfl hne, fun _ => by simpa using hovm⟩
  | ie | ifr | iof => cases hw
  | dp | ir0 | ir1 | bk | rs | re | rc =>
    cases hw
    refine ⟨st, h.of_regs (fun q _ hq => ?_) rfl rfl rfl le_rfl (.inl rfl) rfl h.lines h.status, fun _ => rfl,
      fun he => by cases he⟩
    cases q <;> first | exact absurd hr hq | rfl

/-! ### The lines -/

theorem Work.driveXf0 (h : Work may addr l st s u) (b : Bool) : Work may addr (l.driveXf0 b) st s (u.driveXf0 b) :=
  h.of_regs (fun r _ _ => by cases r <;> rfl) rfl rfl rfl le_rfl (.inl rfl) rfl (h.lines ▸ rfl) h.status

theorem Work.acquire (h : Work may addr l st s u) : Work may addr l.acquire st s u.acquire :=
  h.of_regs (fun r _ _ => by cases r <;> rfl) rfl rfl rfl le_rfl (.inl rfl) rfl (h.lines ▸ rfl) h.status

theorem Work.driveIack (h : Work may addr l st s u) (b : Bool) : Work may addr (l.driveIack b) st s (u.driveIack b) :=
  h.of_regs (fun r _ _ => by cases r <;> rfl) rfl rfl rfl le_rfl (.inl rfl) rfl (h.lines ▸ rfl) h.status

theorem Work.setClock (h : Work may addr l st s u) (c : ClockMode) :
    Work may addr { l with clock := c } st s { u with clock := c } :=
  h.of_regs (fun r _ _ => by cases r <;> rfl) rfl rfl rfl le_rfl (.inl rfl) rfl (h.lines ▸ rfl) h.status

theorem Work.stopWaiting (h : Work may addr l st s u) : Work may addr l st s { u with waiting := none } :=
  h.of_regs (fun r _ _ => by cases r <;> rfl) rfl rfl rfl le_rfl (.inr rfl) rfl h.lines h.status

/-! ### Memory -/

theorem Work.store (h : Work may addr l st s u) {a : Addr} (ha : addr a) (hp : u.inProgram a = false) (x : Word) :
    Work may addr l st s (u.store a x) where
  regs := fun r hr hm => (by cases r <;> rfl : (u.store a x).contents r = u.contents r).trans (h.regs r hr hm)
  mem := fun b hb => by
    have hne : a.toNat ≠ b.toNat := fun he => hb (BitVec.eq_of_toNat_eq he ▸ ha)
    exact (Memory.read_write_of_ne _ _ hne).trans (h.mem b hb)
  program := fun b hb => by
    have hne : a.toNat ≠ b.toNat := fun he => by
      rw [BitVec.eq_of_toNat_eq he, h.inProgram, hb] at hp
      cases hp
    exact (Memory.read_write_of_ne _ _ hne).trans (h.program b hb)
  canonical := fun hwf => Memory.write_addr_wf _ _ _ (h.canonical hwf)
  stored := fun n hn => mem_noteAddr.mpr (.inr (h.stored n hn))
  newStored := fun n hn => by
    rcases mem_noteAddr.mp hn with rfl | hn
    · rw [h.inProgram, State.inProgram, Bool.or_eq_false_iff] at hp
      exact .inr (by simpa using hp.1)
    · exact h.newStored n hn
  between := h.between
  agents := h.agents
  draws := h.draws
  waiting := h.waiting
  fixed := h.fixed
  lines := h.lines
  status := h.status

theorem Work.memRead (h : Work may addr l st s u) {a : Addr} {x : Word} (hr : memRead a u = .ok (x, v)) :
    Work may addr l st s v := by
  rcases memRead_cases hr with ⟨-, ⟨-, -, rfl⟩ | ⟨-, -, rfl⟩⟩
  · exact h.tick
  · exact h

theorem Work.memWrite (h : Work may addr l st s u) {a : Addr} {x : Word} (hw : memWrite a x u = .ok v) (ha : addr a) :
    Work may addr l st s v := by
  obtain ⟨-, hp, rfl⟩ := memWrite_ok.mp hw
  exact h.store ha hp x

/-- Other agents write at addresses that may change. -/
theorem Work.outsideWrites (h : Work may addr l st s u) {ws : List (Addr × Word)} (hws : ∀ p ∈ ws, addr p.1) :
    Work may addr l st s (outsideWrites ws u) := by
  induction ws generalizing u with
  | nil => exact h
  | cons p t ih =>
    simp only [Machine.outsideWrites]
    refine ih ?_ fun q hq => hws q (List.mem_cons_of_mem _ hq)
    split
    next hmay => exact h.store (hws p List.mem_cons_self) (agentMay_not_inProgram hmay) _
    next => exact h

theorem Work.agentsAct (h : Work may addr l st s u) : Work may addr l st s (agentsAct u) := by
  have hempty : Work may addr l st s { u with between := [] } :=
    { h with
      regs := fun r hr hm => (by cases r <;> rfl : ({ u with between := [] } : State).contents r = u.contents r).trans
        (h.regs r hr hm)
      between := .inr rfl
      agents := fun _ hp => by cases hp }
  exact hempty.outsideWrites h.agents

end rules

end Sys2Proof.Machine
end

section
/-! The rules of `Work` for operands and results, and what an instruction may do to the status register. -/
namespace Sys2Proof.Machine

section operands

variable {may : Reg → Prop} {addr : Addr → Prop} {l : Lines} {st : Status} {s u v : State}

/-! ### Operands -/

/-- The auxiliary registers that the operands modify may change. -/
def AuxAllowed (may : Reg → Prop) (xs : List Indirect) : Prop := ∀ x ∈ xs, ∀ n, clobbers x (.ar n) = true → may (.ar n)

theorem AuxAllowed.left {xs ys : List Indirect} (h : AuxAllowed may (xs ++ ys)) : AuxAllowed may xs :=
  fun x hx => h x (List.mem_append_left _ hx)

theorem AuxAllowed.right {xs ys : List Indirect} (h : AuxAllowed may (xs ++ ys)) : AuxAllowed may ys :=
  fun x hx => h x (List.mem_append_right _ hx)

/-- An indirect operand changes nothing, or the auxiliary register that its form modifies. -/
theorem indirect_cases {x : Indirect} {a : Addr} (h : indirect x u = .ok (a, v)) :
    v = u ∨ modifies x = true ∧ ∃ w, v = u.setAr x.arNum w := by
  cases x with
  | plain n =>
    cases h
    exact .inl rfl
  | bitrev n =>
    cases h
    exact .inr ⟨rfl, _, rfl⟩
  | indexed m d n =>
    cases m with
    | preAdd | preSub =>
      cases h
      exact .inl rfl
    | preAddMod | preSubMod | postAdd | postSub =>
      cases h
      exact .inr ⟨rfl, _, rfl⟩
    | postAddCirc | postSubCirc =>
      obtain ⟨w, -, h⟩ := bind_ok.mp h
      cases h
      exact .inr ⟨rfl, _, rfl⟩

theorem Work.indirect (h : Work may addr l st s u) {x : Indirect} {a : Addr} (hi : indirect x u = .ok (a, v))
    (hx : AuxAllowed may [x]) : Work may addr l st s v := by
  rcases indirect_cases hi with rfl | ⟨hm, w, rfl⟩
  · exact h
  · exact h.setAr (hx x List.mem_cons_self _ (by simp [clobbers, hm])) w

theorem Work.ea (h : Work may addr l st s u) {m : MemOp} {a : Addr} (he : ea m u = .ok (a, v))
    (hm : AuxAllowed may (memIndirects m)) : Work may addr l st s v := by
  cases m with
  | dir k =>
    cases he
    exact h
  | ind x => exact h.indirect he hm

theorem Work.loadInd (h : Work may addr l st s u) {x : Indirect} {w : Word} (hl : loadInd x u = .ok (w, v))
    (hx : AuxAllowed may [x]) : Work may addr l st s v := by
  obtain ⟨⟨a, u1⟩, hi, hr⟩ := bind_ok.mp hl
  exact (h.indirect hi hx).memRead hr

theorem Work.loadMem (h : Work may addr l st s u) {m : MemOp} {w : Word} (hl : loadMem m u = .ok (w, v))
    (hm : AuxAllowed may (memIndirects m)) : Work may addr l st s v := by
  obtain ⟨⟨a, u1⟩, he, hr⟩ := bind_ok.mp hl
  exact (h.ea he hm).memRead hr

theorem Work.srcInt (h : Work may addr l st s u) {e : ImmExt} {x : Src} {w : Word} (hs : srcInt e x u = .ok (w, v))
    (hx : AuxAllowed may (srcIndirects x)) : Work may addr l st s v := by
  cases x with
  | reg r =>
    obtain ⟨y, -, hs⟩ := bind_ok.mp hs
    cases hs
    exact h
  | mem m => exact h.loadMem hs hx
  | imm k =>
    cases hs
    exact h

theorem Work.srcFlt (h : Work may addr l st s u) {x : FSrc} {w : Ext} (hs : srcFlt x u = .ok (w, v))
    (hx : AuxAllowed may (fsrcIndirects x)) : Work may addr l st s v := by
  cases x with
  | reg n =>
    cases hs
    exact h
  | mem m =>
    obtain ⟨⟨y, u1⟩, hl, hs⟩ := bind_ok.mp hs
    cases hs
    exact h.loadMem hl hx
  | imm k =>
    cases hs
    exact h

theorem Work.src3Int (h : Work may addr l st s u) {s0 : State} {x : Src3} {w : Word} (hs : src3Int s0 x u = .ok (w, v))
    (hx : AuxAllowed may (src3Indirects x)) : Work may addr l st s v := by
  cases x with
  | reg r =>
    obtain ⟨y, -, hs⟩ := bind_ok.mp hs
    cases hs
    exact h
  | ind j =>
    obtain ⟨⟨y, u1⟩, hl, hs⟩ := bind_ok.mp hs
    cases hs
    exact (h.loadInd hl hx).agentsAct

theorem Work.src3Flt (h : Work may addr l st s u) {s0 : State} {x : FSrc3} {w : Ext} (hs : src3Flt s0 x u = .ok (w, v))
    (hx : AuxAllowed may (fsrc3Indirects x)) : Work may addr l st s v := by
  cases x with
  | reg n =>
    cases hs
    exact h
  | ind j =>
    obtain ⟨⟨y, u1⟩, hl, hs⟩ := bind_ok.mp hs
    cases hs
    exact (h.loadInd hl hx).agentsAct

theorem Work.mul3Int (h : Work may addr l st s u) {s0 : State} {x : FSrc3} {w : Word} (hs : mul3Int s0 x u = .ok (w, v))
    (hx : AuxAllowed may (fsrc3Indirects x)) : Work may addr l st s v := by
  cases x with
  | reg n =>
    cases hs
    exact h
  | ind j =>
    obtain ⟨⟨y, u1⟩, hl, hs⟩ := bind_ok.mp hs
    cases hs
    exact (h.loadInd hl hx).agentsAct

theorem Work.both3Int (h : Work may addr l st s u) {x y : Src3} {a b : Word} (hs : both3Int x y u = .ok (a, b, v))
    (hxy : AuxAllowed may (src3Indirects x ++ src3Indirects y)) : Work may addr l st s v := by
  obtain ⟨-, hs⟩ := need_bind_ok.mp hs
  obtain ⟨⟨a1, u1⟩, hx, hs⟩ := bind_ok.mp hs
  obtain ⟨⟨b1, u2⟩, hy, hs⟩ := bind_ok.mp hs
  cases hs
  exact (h.src3Int hx hxy.left).src3Int hy hxy.right

theorem Work.both3Flt (h : Work may addr l st s u) {x y : FSrc3} {a b : Ext} (hs : both3Flt x y u = .ok (a, b, v))
    (hxy : AuxAllowed may (fsrc3Indirects x ++ fsrc3Indirects y)) : Work may addr l st s v := by
  obtain ⟨-, hs⟩ := need_bind_ok.mp hs
  obtain ⟨⟨a1, u1⟩, hx, hs⟩ := bind_ok.mp hs
  obtain ⟨⟨b1, u2⟩, hy, hs⟩ := bind_ok.mp hs
  cases hs
  exact (h.src3Flt hx hxy.left).src3Flt hy hxy.right

/-! ### The stack and the product -/

theorem Work.push (h : Work may addr l st s u) {x : Word} (hp : push x u = .ok v) (hsp : may .sp)
    (ha : addr (low24 (u.sp + 1))) : Work may addr l st s v := by
  obtain ⟨-, hprogram, rfl⟩ := push_ok.mp hp
  exact (h.setSp hsp (u.sp + 1)).store ha hprogram x

theorem Work.pop (h : Work may addr l st s u) {x : Word} (hp : pop u = .ok (x, v)) (hsp : may .sp) :
    Work may addr l st s v := by
  obtain ⟨u1, hr, rfl⟩ := pop_ok.mp hp
  exact (h.memRead hr).setSp hsp _

theorem Work.mulWords (h : Work may addr l st s u) (a b : Word) : Work may addr l st s (mulWords a b u).2 := by
  unfold Machine.mulWords
  split
  · exact h
  · exact h.tick

/-! ### The parallel instructions -/

theorem Work.pairStart (h : Work may addr l st s u) {x y : Indirect} {w : Word} {a : Addr}
    (hp : pairStart x y u = .ok (w, a, v)) (hxy : AuxAllowed may [x, y]) :
    Work may addr l st s v ∧ ∃ u1, Machine.indirect y u = .ok (a, u1) := by
  obtain ⟨-, hp⟩ := need_bind_ok.mp hp
  obtain ⟨⟨a1, u1⟩, hy, hp⟩ := bind_ok.mp hp
  obtain ⟨⟨w1, u2⟩, hx, hp⟩ := bind_ok.mp hp
  cases hp
  exact ⟨((h.indirect hy (hxy.right (xs := [x]))).loadInd hx (hxy.left (ys := [y]))).agentsAct, u1, hy⟩

theorem Work.loadPair (h : Work may addr l st s u) {p : LoadPair} {x y : Word} (hp : loadPair p u = .ok (x, y, v))
    (hxy : AuxAllowed may [p.src2, p.src4]) : Work may addr l st s v := by
  obtain ⟨-, hp⟩ := need_bind_ok.mp hp
  obtain ⟨-, hp⟩ := need_bind_ok.mp hp
  obtain ⟨⟨a, u1⟩, ha, hp⟩ := bind_ok.mp hp
  obtain ⟨⟨b, u2⟩, hb, hp⟩ := bind_ok.mp hp
  obtain ⟨⟨x1, u3⟩, hx, hp⟩ := bind_ok.mp hp
  obtain ⟨⟨y1, u4⟩, hy, hp⟩ := bind_ok.mp hp
  cases hp
  have h2 := (h.indirect ha (hxy.left (ys := [p.src4]))).indirect hb (hxy.right (xs := [p.src2]))
  exact ((h2.memRead hx).agentsAct).memRead hy

/-- Each operand of a parallel multiply is one of its indirect operands or a register. -/
theorem AuxAllowed.of_pair {p : MulPair} {x : FSrc3} (h : AuxAllowed may (pairIndirects p))
    (hx : x ∈ [p.op1, p.op2, p.op4, p.op5]) : AuxAllowed may (fsrc3Indirects x) := by
  intro j hj
  cases x with
  | reg n => cases hj
  | ind k =>
    obtain rfl := List.mem_singleton.mp hj
    exact h j (List.mem_filterMap.mpr ⟨_, hx, rfl⟩)

theorem Work.mulPairInt (h : Work may addr l st s u) {p : MulPair} {x1 x2 x4 x5 : Word}
    (hp : mulPairInt p u = .ok (x1, x2, x4, x5, v)) (hx : AuxAllowed may (pairIndirects p)) : Work may addr l st s v := by
  obtain ⟨_, -, hp⟩ := bind_ok.mp hp
  obtain ⟨⟨y1, u1⟩, h1, hp⟩ := bind_ok.mp hp
  obtain ⟨⟨y2, u2⟩, h2, hp⟩ := bind_ok.mp hp
  obtain ⟨⟨y4, u4⟩, h4, hp⟩ := bind_ok.mp hp
  obtain ⟨⟨y5, u5⟩, h5, hp⟩ := bind_ok.mp hp
  cases hp
  exact (((h.mul3Int h1 (hx.of_pair (by simp))).mul3Int h2 (hx.of_pair (by simp))).mul3Int h4
    (hx.of_pair (by simp))).mul3Int h5 (hx.of_pair (by simp))

theorem Work.mulPairFlt (h : Work may addr l st s u) {p : MulPair} {x1 x2 x4 x5 : Ext}
    (hp : mulPairFlt p u = .ok (x1, x2, x4, x5, v)) (hx : AuxAllowed may (pairIndirects p)) : Work may addr l st s v := by
  obtain ⟨_, -, hp⟩ := bind_ok.mp hp
  obtain ⟨⟨y1, u1⟩, h1, hp⟩ := bind_ok.mp hp
  obtain ⟨⟨y2, u2⟩, h2, hp⟩ := bind_ok.mp hp
  obtain ⟨⟨y4, u4⟩, h4, hp⟩ := bind_ok.mp hp
  obtain ⟨⟨y5, u5⟩, h5, hp⟩ := bind_ok.mp hp
  cases hp
  exact (((h.src3Flt h1 (hx.of_pair (by simp))).src3Flt h2 (hx.of_pair (by simp))).src3Flt h4
    (hx.of_pair (by simp))).src3Flt h5 (hx.of_pair (by simp))

end operands

/-! ### The status register -/

/-- What a completed instruction does to the status register (R174, R245): nothing, where it may write no flag; all its
flags, or C alone, by the row of its class; or a word without OVM where ST is a destination. -/
inductive StatusChange (i : Instr) (p : FlagPolicy) (st : Status) : Status → Prop
  | keep (h : ∀ k, flagClass i = some k → destinations i ≠ [] ∧ (destinations i).any isExtended = false ∧
      (flagRow p k).always = false ∧ (flagRow p k).cAlways = false) : StatusChange i p st st
  | update (k : FlagClass) (f : NewFlags) (hk : flagClass i = some k) (hst : .st ∉ destinations i)
      (hlast : (flagRow p k).always = true ∨ destinations i = [] ∨ (destinations i).any isExtended = true) :
      StatusChange i p st (st.update (flagRow p k) f)
  | carry (k : FlagClass) (f : NewFlags) (hk : flagClass i = some k) (hst : .st ∉ destinations i)
      (hc : (flagRow p k).cAlways = true ∧ (flagRow p k).always = false ∧ destinations i ≠ [] ∧
        (destinations i).any isExtended = false) : StatusChange i p st (st.updateC (flagRow p k) f)
  | written (st' : Status) (hst : .st ∈ destinations i) (hovm : st'.ovm = false) : StatusChange i p st st'

theorem StatusChange.of_no_class {i : Instr} (h : flagClass i = none) (p : FlagPolicy) (st : Status) :
    StatusChange i p st st :=
  .keep fun k hk => by rw [h] at hk; cases hk

/-- The instruction is of class k, and dst is the destination that the last column of its row is about. -/
structure Writes (i : Instr) (k : FlagClass) (dst : Reg) : Prop where
  flags : flagClass i = some k
  mem : dst ∈ destinations i
  extended : (destinations i).any isExtended = isExtended dst
  status : .st ∈ destinations i → dst = .st

theorem Writes.of_single {i : Instr} {k : FlagClass} {dst : Reg} (hk : flagClass i = some k) (hd : destinations i = [dst]) :
    Writes i k dst := by
  refine ⟨hk, ?_, ?_, ?_⟩ <;> rw [hd] <;> simp
  exact Eq.symm

section results

variable {may : Reg → Prop} {addr : Addr → Prop} {l : Lines} {st : Status} {s u v : State} {i : Instr} {k : FlagClass}

theorem Work.putFlags (h : Work may addr l st s u) (k : FlagClass) (f : NewFlags) :
    Work may addr l (st.update (flagRow s.params.flagPolicy k) f) s (putFlags k f u) := by
  rw [putFlags_eq, ← h.params, ← h.status]
  exact h.setSt _

theorem Work.putFlagsFor (h : Work may addr l st s u) {dst : Reg} (hw : Writes i k dst) (hne : dst ≠ .st) (f : NewFlags) :
    ∃ st', Work may addr l st' s (putFlagsFor k dst f u) ∧ StatusChange i s.params.flagPolicy st st' := by
  have hst : .st ∉ destinations i := fun hmem => hne (hw.status hmem)
  have hnil : destinations i ≠ [] := List.ne_nil_of_mem hw.mem
  have plain (hext : isExtended dst = false) : ∃ st', Work may addr l st' s
      (if (flagRow u.params.flagPolicy k).always then Machine.putFlags k f u
        else if (flagRow u.params.flagPolicy k).cAlways then u.setSt (u.st.updateC (flagRow u.params.flagPolicy k) f)
        else u) ∧ StatusChange i s.params.flagPolicy st st' := by
    rw [h.params]
    split
    next ha => exact ⟨_, h.putFlags k f, .update k f hw.flags hst (.inl ha)⟩
    next ha =>
      rw [Bool.not_eq_true] at ha
      split
      next hc =>
        refine ⟨_, h.setSt _, ?_⟩
        rw [h.status]
        exact .carry k f hw.flags hst ⟨hc, ha, hnil, hw.extended.trans hext⟩
      next hc =>
        refine ⟨_, h, .keep fun k' hk' => ?_⟩
        obtain rfl : k = k' := Option.some.inj (hw.flags.symm.trans hk')
        exact ⟨hnil, hw.extended.trans hext, ha, by simpa using hc⟩
  cases dst with
  | st => exact absurd rfl hne
  | r n => exact ⟨_, h.putFlags k f, .update k f hw.flags hst (.inr (.inr (hw.extended.trans rfl)))⟩
  | ar _ | dp | ir0 | ir1 | bk | sp | ie | ifr | iof | rs | re | rc => exact plain rfl

theorem Work.putInt (h : Work may addr l st s u) {dst : Reg} {r : IntResult} (hp : putInt k dst r u = .ok v)
    (hw : Writes i k dst) (hdst : may dst) :
    ∃ st', Work may addr l st' s v ∧ StatusChange i s.params.flagPolicy st st' := by
  obtain ⟨u1, hwrite, hp⟩ := bind_ok.mp hp
  cases hp
  obtain ⟨st1, h1, hother, hstatus⟩ := h.writeInt hwrite hdst
  by_cases hst : dst = .st
  · subst hst
    exact ⟨st1, h1, .written st1 hw.mem (hstatus rfl)⟩
  · obtain rfl := hother hst
    exact h1.putFlagsFor hw hst _

theorem Work.putFlt (h : Work may addr l st s u) {dst : Rn} (r : FltResult) (hw : Writes i k (.r dst)) (hdst : may (.r dst)) :
    ∃ st', Work may addr l st' s (putFlt k dst r u) ∧ StatusChange i s.params.flagPolicy st st' :=
  (h.setR hdst r.value).putFlagsFor hw (by simp) r.flags

/-- A register written without flags. -/
theorem Work.writeIntNoFlags (h : Work may addr l st s u) {dst : Reg} {x : Word} (hwrite : Machine.writeInt dst x u = .ok v)
    (hk : flagClass i = none) (hd : dst ∈ destinations i) (hdst : may dst) :
    ∃ st', Work may addr l st' s v ∧ StatusChange i s.params.flagPolicy st st' := by
  obtain ⟨st1, h1, hother, hstatus⟩ := h.writeInt hwrite hdst
  by_cases hst : dst = .st
  · subst hst
    exact ⟨st1, h1, .written st1 hd (hstatus rfl)⟩
  · obtain rfl := hother hst
    exact ⟨st1, h1, .of_no_class hk _ _⟩

end results

end Sys2Proof.Machine
end

section
/-!
How an instruction that answers a next state ends: it completes, starts to wait, or transfers (R13, R350, R351, R371); and
what the shapes of Forms.lean have done by then.
-/
namespace Sys2Proof.Machine

variable {i : Instr} {s t u v : State} {l : Lines} {st : Status} {k : FlagClass}

/-! ### The ends of an instruction -/

/-- The address is one that the instruction stores to, or that another agent writes inside it (R69; log 38). -/
def mayStore (i : Instr) (s : State) (a : Addr) : Prop := a ∈ storeAddresses i s ∨ ∃ v, (a, v) ∈ s.between

/-- Work within what the frames of an instruction allow. -/
abbrev InstrWork (i : Instr) (l : Lines) (st : Status) (s u : State) : Prop :=
  Work (fun r => mayWrite i r = true) (mayStore i s) l st s u

def LocksLoad (i : Instr) : Prop := (∃ m n, i = .ldfi m n) ∨ ∃ m r, i = .ldii m r

def LocksStore (i : Instr) : Prop := (∃ n m, i = .stfi n m) ∨ ∃ r m, i = .stii r m

/-- What an instruction drives (R38, R40, R42, R403, R407 to R409). -/
inductive LineChange (i : Instr) (s : State) : Lines → Prop
  | same : LineChange i s s.lines
  | iack (hi : ∃ m, i = .iack m) : LineChange i s ((s.lines.driveIack false).driveIack true)
  | clock (hi : i = .lopower ∨ i = .maxspeed) (c : ClockMode) : LineChange i s { s.lines with clock := c }
  | load (hi : LocksLoad i) : LineChange i s (s.lines.driveXf0 false)
  | acquire (hi : LocksLoad i) (hx : s.xf1 = false) : LineChange i s (s.lines.driveXf0 false).acquire
  | store (hi : LocksStore i) : LineChange i s (s.lines.driveXf0 true)
  | signal (hi : i = .sigi) : LineChange i s (s.lines.driveXf0 false)
  | answered (hi : i = .sigi) : LineChange i s ((s.lines.driveXf0 false).driveXf0 true)

/-- The waits that an interlocked instruction starts, with the lines then (R403, R407, R409). -/
inductive WaitStart (i : Instr) (s : State) : Lines → Waiting → Prop
  | ldfi (hi : LocksLoad i) (a : Addr) (n : Rn) : WaitStart i s (s.lines.driveXf0 false) (.ldfi a n)
  | ldii (hi : LocksLoad i) (a : Addr) (r : Reg) : WaitStart i s (s.lines.driveXf0 false) (.ldii a r)
  | store (hi : LocksStore i) (a : Addr) (x : Word) : WaitStart i s (s.lines.driveXf0 true) (.store a x)
  | sigi (hi : i = .sigi) (hc : s.pend = none ∧ s.rpts = .off) : WaitStart i s (s.lines.driveXf0 false) .sigi

/-- The phase of RPTS and the status register after a transfer to a (R350, R355, R368, R375, R377, R380). -/
inductive Transfer (i : Instr) (s u : State) (a : Addr) (p : Option Pending) : RptsPhase → Status → Prop
  | plain : Transfer i s u a p .off s.st
  | trap (c : Cond) (n : Fin 32) (hi : i = .trapcond c n) : Transfer i s u a p .off { s.st with gie := false }
  | returns (c : Cond) (hi : i = .reticond c) : Transfer i s u a p .off { s.st with gie := true }
  | block (b : Addr) (hi : i = .rptb b) : Transfer i s u a p .off { s.st with rm := true }
  | single (x : Src) (hi : i = .rpts x) (hp : p = none) (ha : a = low24 u.re) :
      Transfer i s u a p .armed { s.st with rm := true }

/-- The state in which an instruction leaves the machine, when its work has led to u. -/
inductive Ends (i : Instr) (s u : State) : State → Prop
  | completes (h : StatusChange i s.params.flagPolicy s.st u.st) : Ends i s u (sequential u)
  | waits (w : Waiting) (hw : WaitStart i s u.lines w) (hst : u.st = s.st) (hre : u.re = s.re) :
      Ends i s u { u with waiting := some w }
  | idles (w : Waiting) (hi : i = .idle ∧ w = .idle ∨ i = .idle2 ∧ w = .idle2) (hc : s.pend = none ∧ s.rpts = .off)
      (hgie : s.st.gie = true) (hst : u.st = s.st) : Ends i s u { u with pc := u.pc + 1, waiting := some w }
  | transfers (a : Addr) (p : Option Pending) (ph : RptsPhase) (st : Status) (hc : s.pend = none ∧ s.rpts = .off)
      (hk : flagClass i = none) (hst : u.st = s.st) (ht : Transfer i s u a p ph st) : Ends i s u { u with pc := a, pend := p, rpts := ph, st := st }

/-- The instruction has gone from s to t within its frame. -/
def Done (i : Instr) (s t : State) : Prop := ∃ u, InstrWork i u.lines u.st s u ∧ LineChange i s u.lines ∧ Ends i s u t

/-! ### Completing -/

theorem mayWrite_of_mem {r : Reg} (h : r ∈ destinations i) : mayWrite i r = true := by
  simp [mayWrite, h]

theorem auxAllowed (i : Instr) : AuxAllowed (fun r => mayWrite i r = true) (indirects i) := by
  intro x hx n hn
  have hupdates : updates i n = true := List.any_eq_true.mpr ⟨x, hx, hn⟩
  simp [mayWrite, hupdates]

theorem auxAllowed_of {xs : List Indirect} (h : indirects i = xs) : AuxAllowed (fun r => mayWrite i r = true) xs :=
  h ▸ auxAllowed i

theorem InstrWork.start (i : Instr) (s : State) : InstrWork i s.lines s.st s s :=
  Work.refl _ fun p hp => .inr ⟨p.2, hp⟩

theorem Done.intro (h : InstrWork i l st s u) (hl : LineChange i s l) (he : u.lines = l → u.st = st → Ends i s u t) :
    Done i s t := by
  obtain rfl := h.lines
  obtain rfl := h.status
  exact ⟨u, h, hl, he rfl rfl⟩

theorem Done.completes (h : InstrWork i l st s u) (hl : LineChange i s l)
    (hst : StatusChange i s.params.flagPolicy s.st st) : Done i s (sequential u) :=
  .intro h hl fun _ he => .completes (he ▸ hst)

theorem Done.noFlags (h : InstrWork i s.lines s.st s u) (hk : flagClass i = none) : Done i s (sequential u) :=
  .completes h .same (.of_no_class hk _ _)

theorem Done.flags (h : InstrWork i s.lines s.st s u) (hk : flagClass i = some k) (hd : destinations i = [])
    (f : NewFlags) : Done i s (sequential (putFlags k f u)) :=
  .completes (h.putFlags k f) .same (.update k f hk (by simp [hd]) (.inr (.inl hd)))

theorem Done.putInt {dst : Reg} {r : IntResult} (h : InstrWork i s.lines s.st s u) (hw : Writes i k dst)
    (hp : putInt k dst r u = .ok v) : Done i s (sequential v) := by
  obtain ⟨st', hv, hst⟩ := h.putInt hp hw (mayWrite_of_mem hw.mem)
  exact .completes hv .same hst

theorem Done.putFlt {dst : Rn} (r : FltResult) (h : InstrWork i s.lines s.st s u) (hw : Writes i k (.r dst)) :
    Done i s (sequential (putFlt k dst r u)) := by
  obtain ⟨st', hv, hst⟩ := h.putFlt r hw (mayWrite_of_mem hw.mem)
  exact .completes hv .same hst

theorem Done.writeInt {dst : Reg} {x : Word} (h : InstrWork i s.lines s.st s u) (hk : flagClass i = none)
    (hd : dst ∈ destinations i) (hw : writeInt dst x u = .ok v) : Done i s (sequential v) := by
  obtain ⟨st', hv, hst⟩ := h.writeIntNoFlags hw hk hd (mayWrite_of_mem hd)
  exact .completes hv .same hst

/-! ### The shapes -/

theorem done_intOp {e : ImmExt} {f : Word → Word → Bool → IntResult} {src : Src} {dst : Reg}
    (hx : indirects i = srcIndirects src) (hw : Writes i k dst) (h : intOp k e f src dst s = .ok t) : Done i s t := by
  obtain ⟨-, d, v, s1, u, -, hv, hu, rfl⟩ := intOp_ok.mp h
  exact .putInt ((InstrWork.start i s).srcInt hv (auxAllowed_of hx)) hw hu

theorem done_intUnary {e : ImmExt} {f : Word → Bool → IntResult} {src : Src} {dst : Reg}
    (hx : indirects i = srcIndirects src) (hw : Writes i k dst) (h : intUnary k e f src dst s = .ok t) : Done i s t := by
  obtain ⟨-, v, s1, u, hv, hu, rfl⟩ := intUnary_ok.mp h
  exact .putInt ((InstrWork.start i s).srcInt hv (auxAllowed_of hx)) hw hu

theorem done_intTest {e : ImmExt} {f : Word → Word → IntResult} {src : Src} {dst : Reg}
    (hx : indirects i = srcIndirects src) (hk : flagClass i = some k) (hd : destinations i = [])
    (h : intTest k e f src dst s = .ok t) : Done i s t := by
  obtain ⟨d, v, s1, -, hv, rfl⟩ := intTest_ok.mp h
  exact .flags ((InstrWork.start i s).srcInt hv (auxAllowed_of hx)) hk hd _

theorem done_int3 {f : Word → Word → Bool → IntResult} {x y : Src3} {dst : Reg}
    (hx : indirects i = src3Indirects x ++ src3Indirects y) (hw : Writes i k dst) (h : int3 k f x y dst s = .ok t) :
    Done i s t := by
  obtain ⟨-, a, b, s1, u, hv, hu, rfl⟩ := int3_ok.mp h
  exact .putInt ((InstrWork.start i s).both3Int hv (auxAllowed_of hx)) hw hu

theorem done_intTest3 {f : Word → Word → IntResult} {x y : Src3} (hx : indirects i = src3Indirects x ++ src3Indirects y)
    (hk : flagClass i = some k) (hd : destinations i = []) (h : intTest3 k f x y s = .ok t) : Done i s t := by
  obtain ⟨a, b, s1, hv, rfl⟩ := intTest3_ok.mp h
  exact .flags ((InstrWork.start i s).both3Int hv (auxAllowed_of hx)) hk hd _

theorem done_fltOp {f : Ext → Ext → FltResult} {src : FSrc} {dst : Rn} (hx : indirects i = fsrcIndirects src)
    (hw : Writes i k (.r dst)) (h : fltOp k f src dst s = .ok t) : Done i s t := by
  obtain ⟨v, s1, hv, rfl⟩ := fltOp_ok.mp h
  exact .putFlt _ ((InstrWork.start i s).srcFlt hv (auxAllowed_of hx)) hw

theorem done_fltUnary {f : Ext → FltResult} {src : FSrc} {dst : Rn} (hx : indirects i = fsrcIndirects src)
    (hw : Writes i k (.r dst)) (h : fltUnary k f src dst s = .ok t) : Done i s t := by
  obtain ⟨v, s1, hv, rfl⟩ := fltUnary_ok.mp h
  exact .putFlt _ ((InstrWork.start i s).srcFlt hv (auxAllowed_of hx)) hw

theorem done_flt3 {f : Ext → Ext → FltResult} {x y : FSrc3} {dst : Rn}
    (hx : indirects i = fsrc3Indirects x ++ fsrc3Indirects y) (hw : Writes i k (.r dst)) (h : flt3 k f x y dst s = .ok t) :
    Done i s t := by
  obtain ⟨a, b, s1, hv, rfl⟩ := flt3_ok.mp h
  exact .putFlt _ ((InstrWork.start i s).both3Flt hv (auxAllowed_of hx)) hw

theorem done_rotate {f : Word → Bool → IntResult} {dst : Reg} (hw : Writes i .rot dst) (h : rotate f dst s = .ok t) :
    Done i s t := by
  obtain ⟨d, u, -, hu, rfl⟩ := rotate_ok.mp h
  exact .putInt (InstrWork.start i s) hw hu

theorem done_storeAt {x : Word} {m : MemOp} (hx : indirects i = memIndirects m) (hk : flagClass i = none)
    (ha : ∀ a s1, ea m s = .ok (a, s1) → a ∈ storeAddresses i s) (h : storeAt x m s = .ok t) : Done i s t := by
  obtain ⟨⟨a, s1⟩, he, h⟩ := bind_ok.mp h
  obtain ⟨u, hu, h⟩ := bind_ok.mp h
  cases h
  exact .noFlags (((InstrWork.start i s).ea he (auxAllowed_of hx)).memWrite hu (.inl (ha a s1 he))) hk

/-! ### An operation with a store -/

/-- What a pair of an operation and a store is, for its work. -/
structure StorePairing (i : Instr) (s : State) (src2 dst2 : Indirect) : Prop where
  operands : indirects i = [src2, dst2]
  address : ∀ a s1, indirect dst2 s = .ok (a, s1) → a ∈ storeAddresses i s

theorem InstrWork.pairStart {x y : Indirect} {w : Word} {a : Addr} (hi : StorePairing i s x y)
    (hp : pairStart x y s = .ok (w, a, v)) : InstrWork i s.lines s.st s v ∧ mayStore i s a := by
  obtain ⟨hv, s1, ha⟩ := Work.pairStart (InstrWork.start i s) hp (auxAllowed_of hi.operands)
  exact ⟨hv, .inl (hi.address a s1 ha)⟩

theorem Done.putIntStore {dst : Reg} {r : IntResult} {a : Addr} {x : Word} {w : State} (h : InstrWork i s.lines s.st s u)
    (ha : mayStore i s a) (hw : Writes i k dst) (hp : Machine.putInt k dst r u = .ok v) (hm : memWrite a x v = .ok w) :
    Done i s (sequential w) := by
  obtain ⟨st', hv, hst⟩ := h.putInt hp hw (mayWrite_of_mem hw.mem)
  exact .completes (hv.memWrite hm ha) .same hst

theorem done_oneSti {f : Word → IntResult} {p : OneStore} (hi : StorePairing i s p.src2 p.dst2)
    (hw : Writes i k (.r p.dst1)) (h : oneSti k f p s = .ok t) : Done i s t := by
  obtain ⟨⟨v2, a2, s1⟩, hp, h⟩ := bind_ok.mp h
  obtain ⟨s2, hput, h⟩ := bind_ok.mp h
  obtain ⟨s3, hm, h⟩ := bind_ok.mp h
  cases h
  obtain ⟨h1, ha⟩ := InstrWork.pairStart hi hp
  exact .putIntStore h1 ha hw hput hm

theorem done_twoSti {f : Word → Word → IntResult} {p : TwoStore} (hi : StorePairing i s p.src2 p.dst2)
    (hw : Writes i k (.r p.dst1)) (h : twoSti k f p s = .ok t) : Done i s t := by
  obtain ⟨⟨v2, a2, s1⟩, hp, h⟩ := bind_ok.mp h
  obtain ⟨s2, hput, h⟩ := bind_ok.mp h
  obtain ⟨s3, hm, h⟩ := bind_ok.mp h
  cases h
  obtain ⟨h1, ha⟩ := InstrWork.pairStart hi hp
  exact .putIntStore h1 ha hw hput hm

theorem Done.putFltStore {dst : Rn} {r : FltResult} {a : Addr} {x : Word} (h : InstrWork i s.lines s.st s u)
    (ha : mayStore i s a) (hw : Writes i k (.r dst)) (hm : memWrite a x (Machine.putFlt k dst r u) = .ok v) :
    Done i s (sequential v) := by
  obtain ⟨st', hv, hst⟩ := h.putFlt r hw (mayWrite_of_mem hw.mem)
  exact .completes (hv.memWrite hm ha) .same hst

theorem done_oneStf {f : Word → FltResult} {p : OneStore} (hi : StorePairing i s p.src2 p.dst2)
    (hw : Writes i .arithFlt (.r p.dst1)) (h : oneStf f p s = .ok t) : Done i s t := by
  obtain ⟨⟨v2, a2, s1⟩, hp, h⟩ := bind_ok.mp h
  obtain ⟨s2, hm, h⟩ := bind_ok.mp h
  cases h
  obtain ⟨h1, ha⟩ := InstrWork.pairStart hi hp
  exact .putFltStore h1 ha hw hm

theorem done_twoStf {f : Ext → Ext → FltResult} {p : TwoStore} (hi : StorePairing i s p.src2 p.dst2)
    (hw : Writes i .arithFlt (.r p.dst1)) (h : twoStf f p s = .ok t) : Done i s t := by
  obtain ⟨⟨v2, a2, s1⟩, hp, h⟩ := bind_ok.mp h
  obtain ⟨s2, hm, h⟩ := bind_ok.mp h
  cases h
  obtain ⟨h1, ha⟩ := InstrWork.pairStart hi hp
  exact .putFltStore h1 ha hw hm

/-! ### Two stores, and a multiply with an add or subtract -/

theorem done_storePair {p : StorePair} {x y : Word} (hi : indirects i = [p.dst1, p.dst2]) (hk : flagClass i = none)
    (ha : ∀ a b s1 s2, indirect p.dst1 s = .ok (a, s1) → indirect p.dst2 s1 = .ok (b, s2) →
      a ∈ storeAddresses i s ∧ b ∈ storeAddresses i s) (h : storePair p x y s = .ok t) : Done i s t := by
  obtain ⟨-, h⟩ := need_bind_ok.mp h
  obtain ⟨⟨a, s1⟩, h1, h⟩ := bind_ok.mp h
  obtain ⟨⟨b, s2⟩, h2, h⟩ := bind_ok.mp h
  obtain ⟨-, h⟩ := need_bind_ok.mp h
  obtain ⟨s3, h3, h⟩ := bind_ok.mp h
  obtain ⟨s4, h4, h⟩ := bind_ok.mp h
  cases h
  obtain ⟨haddr, hbddr⟩ := ha a b s1 s2 h1 h2
  have hx := auxAllowed_of hi
  have work := ((InstrWork.start i s).indirect h1 (hx.left (ys := [p.dst2]))).indirect h2 (hx.right (xs := [p.dst1]))
  exact .noFlags (((work.memWrite h3 (.inl haddr)).agentsAct).memWrite h4 (.inl hbddr)) hk

/-- The class and the destinations of a multiply with an add or subtract. -/
structure MulPairing (i : Instr) (p : MulPair) : Prop where
  operands : indirects i = pairIndirects p
  dests : destinations i = [.r (mulDst p), .r (addDst p)]
  flags : flagClass i = some .mpyAdd

theorem Done.mulPair {p : MulPair} {f : NewFlags} (hi : MulPairing i p) (h : InstrWork i s.lines s.st s u) (x y : Ext) :
    Done i s (sequential (Machine.putFlags .mpyAdd f ((u.setR (mulDst p) x).setR (addDst p) y))) := by
  have hmay (n : Rn) (hn : n = mulDst p ∨ n = addDst p) : mayWrite i (.r n) = true :=
    mayWrite_of_mem (by simpa [hi.dests] using hn)
  refine .completes (((h.setR (hmay _ (.inl rfl)) x).setR (hmay _ (.inr rfl)) y).putFlags _ _) .same ?_
  refine .update _ f hi.flags (by simp [hi.dests]) (.inr (.inr ?_))
  rw [hi.dests]
  rfl

theorem done_mulPairIntOp {f : Word → Word → IntResult} {p : MulPair} (hi : MulPairing i p)
    (h : mulPairIntOp f p s = .ok t) : Done i s t := by
  obtain ⟨⟨v1, v2, v4, v5, s1⟩, hp, h⟩ := bind_ok.mp h
  cases h
  exact .mulPair hi (((InstrWork.start i s).mulPairInt hp (auxAllowed_of hi.operands)).mulWords _ _) _ _

theorem done_mulPairFltOp {f : Ext → Ext → FltResult} {p : MulPair} (hi : MulPairing i p)
    (h : mulPairFltOp f p s = .ok t) : Done i s t := by
  obtain ⟨⟨v1, v2, v4, v5, s1⟩, hp, h⟩ := bind_ok.mp h
  cases h
  exact .mulPair hi ((InstrWork.start i s).mulPairFlt hp (auxAllowed_of hi.operands)) _ _

end Sys2Proof.Machine
end

section
/-! The instructions that have a shape of their own, and the theorem for all of them. -/
namespace Sys2Proof.Machine

variable {i : Instr} {s t u v : State} {l : Lines} {st : Status} {k : FlagClass}

/-! ### Arithmetic, loads and the stack -/

theorem done_subc {src : Src} {dst : Reg} (h : exec (.subc src dst) s = .next t) : Done (.subc src dst) s t := by
  obtain ⟨-, h⟩ := need_bind_ok.mp (toOutcome_next.mp h)
  obtain ⟨d, -, h⟩ := bind_ok.mp h
  obtain ⟨⟨x, s1⟩, hx, h⟩ := bind_ok.mp h
  obtain ⟨s2, hw, h⟩ := bind_ok.mp h
  cases h
  exact .writeInt ((InstrWork.start _ s).srcInt hx (auxAllowed _)) rfl List.mem_cons_self hw

theorem done_mpyi {src : Src} {dst : Reg} (h : exec (.mpyi src dst) s = .next t) : Done (.mpyi src dst) s t := by
  obtain ⟨-, h⟩ := need_bind_ok.mp (toOutcome_next.mp h)
  obtain ⟨d, -, h⟩ := bind_ok.mp h
  obtain ⟨⟨x, s1⟩, hx, h⟩ := bind_ok.mp h
  obtain ⟨s3, hp, h⟩ := bind_ok.mp h
  cases h
  exact .putInt (((InstrWork.start _ s).srcInt hx (auxAllowed _)).mulWords x d) (.of_single rfl rfl) hp

theorem done_mpyi3 {x y : Src3} {dst : Reg} (h : exec (.mpyi3 x y dst) s = .next t) : Done (.mpyi3 x y dst) s t := by
  obtain ⟨-, h⟩ := need_bind_ok.mp (toOutcome_next.mp h)
  obtain ⟨⟨a, b, s1⟩, hx, h⟩ := bind_ok.mp h
  obtain ⟨s3, hp, h⟩ := bind_ok.mp h
  cases h
  exact .putInt (((InstrWork.start _ s).both3Int hx (auxAllowed _)).mulWords a b) (.of_single rfl rfl) hp

theorem done_mpyi3Sti {p : TwoStore} (hi : StorePairing (.mpyi3Sti p) s p.src2 p.dst2)
    (h : exec (.mpyi3Sti p) s = .next t) : Done (.mpyi3Sti p) s t := by
  obtain ⟨⟨v2, a2, s1⟩, hp, h⟩ := bind_ok.mp (toOutcome_next.mp h)
  obtain ⟨s3, hput, h⟩ := bind_ok.mp h
  obtain ⟨s4, hm, h⟩ := bind_ok.mp h
  cases h
  obtain ⟨h1, ha⟩ := InstrWork.pairStart hi hp
  exact .putIntStore (h1.mulWords _ _) ha (.of_single rfl rfl) hput hm

theorem done_fix {src : FSrc} {dst : Reg} (h : exec (.fix src dst) s = .next t) : Done (.fix src dst) s t := by
  obtain ⟨-, h⟩ := need_bind_ok.mp (toOutcome_next.mp h)
  obtain ⟨⟨x, s1⟩, hx, h⟩ := bind_ok.mp h
  obtain ⟨s2, hp, h⟩ := bind_ok.mp h
  cases h
  exact .putInt ((InstrWork.start _ s).srcFlt hx (auxAllowed _)) (.of_single rfl rfl) hp

theorem done_float {src : Src} {dst : Rn} (h : exec (.float src dst) s = .next t) : Done (.float src dst) s t := by
  obtain ⟨⟨x, s1⟩, hx, h⟩ := bind_ok.mp (toOutcome_next.mp h)
  cases h
  exact .putFlt _ ((InstrWork.start _ s).srcInt hx (auxAllowed _)) (.of_single rfl rfl)

theorem done_cmpf {src : FSrc} {dst : Rn} (h : exec (.cmpf src dst) s = .next t) : Done (.cmpf src dst) s t := by
  obtain ⟨⟨x, s1⟩, hx, h⟩ := bind_ok.mp (toOutcome_next.mp h)
  cases h
  exact .flags ((InstrWork.start _ s).srcFlt hx (auxAllowed _)) rfl rfl _

theorem done_cmpf3 {x y : FSrc3} (h : exec (.cmpf3 x y) s = .next t) : Done (.cmpf3 x y) s t := by
  obtain ⟨⟨a, b, s1⟩, hx, h⟩ := bind_ok.mp (toOutcome_next.mp h)
  cases h
  exact .flags ((InstrWork.start _ s).both3Flt hx (auxAllowed _)) rfl rfl _

theorem done_lde {src : FSrc} {dst : Rn} (h : exec (.lde src dst) s = .next t) : Done (.lde src dst) s t := by
  obtain ⟨⟨x, s1⟩, hx, h⟩ := bind_ok.mp (toOutcome_next.mp h)
  cases h
  exact .noFlags (((InstrWork.start _ s).srcFlt hx (auxAllowed _)).setR (mayWrite_of_mem List.mem_cons_self) _) rfl

theorem done_ldf {src : FSrc} {dst : Rn} (h : exec (.ldf src dst) s = .next t) : Done (.ldf src dst) s t := by
  obtain ⟨⟨x, s1⟩, hx, h⟩ := bind_ok.mp (toOutcome_next.mp h)
  cases h
  exact .putFlt _ ((InstrWork.start _ s).srcFlt hx (auxAllowed _)) (.of_single rfl rfl)

theorem done_ldfcond {c : Cond} {src : FSrc} {dst : Rn} (h : exec (.ldfcond c src dst) s = .next t) :
    Done (.ldfcond c src dst) s t := by
  obtain ⟨⟨x, s1⟩, hx, h⟩ := bind_ok.mp (toOutcome_next.mp h)
  cases h
  have work := (InstrWork.start (.ldfcond c src dst) s).srcFlt hx (auxAllowed _)
  split
  · exact .noFlags (work.setR (mayWrite_of_mem List.mem_cons_self) _) rfl
  · exact .noFlags work rfl

theorem done_ldicond {c : Cond} {src : Src} {dst : Reg} (h : exec (.ldicond c src dst) s = .next t) :
    Done (.ldicond c src dst) s t := by
  obtain ⟨-, h⟩ := need_bind_ok.mp (toOutcome_next.mp h)
  obtain ⟨-, h⟩ := need_bind_ok.mp h
  obtain ⟨⟨x, s1⟩, hx, h⟩ := bind_ok.mp h
  have work := (InstrWork.start (.ldicond c src dst) s).srcInt hx (auxAllowed _)
  dsimp only at h
  split at h
  · obtain ⟨s2, hw, h⟩ := bind_ok.mp h
    cases h
    exact .writeInt work rfl List.mem_cons_self hw
  · cases h
    exact .noFlags work rfl

theorem Work.ldmMantissa {may : Reg → Prop} {addr : Addr → Prop} (h : Work may addr l st s u) (src : FSrc) (x : Ext) :
    Work may addr l st s (ldmMantissa src x u).2 := by
  unfold Machine.ldmMantissa
  split
  · split
    · exact h.tick
    · exact h
  · exact h
  · exact h

theorem done_ldm {src : FSrc} {dst : Rn} (h : exec (.ldm src dst) s = .next t) : Done (.ldm src dst) s t := by
  obtain ⟨⟨x, s1⟩, hx, h⟩ := bind_ok.mp (toOutcome_next.mp h)
  cases h
  exact .noFlags ((((InstrWork.start _ s).srcFlt hx (auxAllowed _)).ldmMantissa src x).setR
    (mayWrite_of_mem List.mem_cons_self) _) rfl

theorem done_ldp {page : BitVec 8} (h : exec (.ldp page) s = .next t) : Done (.ldp page) s t := by
  cases (h : .next (sequential { s with dp := page.setWidth 32 }) = Host.Outcome.next t)
  exact .writeInt (InstrWork.start (.ldp page) s) rfl List.mem_cons_self (dst := .dp) (x := page.setWidth 32) rfl

theorem done_sti {src : Reg} {m : MemOp} (h : exec (.sti src m) s = .next t) : Done (.sti src m) s t := by
  obtain ⟨x, -, h⟩ := bind_ok.mp (toOutcome_next.mp h)
  exact done_storeAt rfl rfl (fun a s1 he => by simp [storeAddresses, he]) h

theorem done_pop {dst : Reg} (h : exec (.pop dst) s = .next t) : Done (.pop dst) s t := by
  obtain ⟨⟨x, s1⟩, hx, h⟩ := bind_ok.mp (toOutcome_next.mp h)
  obtain ⟨s2, hp, h⟩ := bind_ok.mp h
  cases h
  have hsp : mayWrite (.pop dst) .sp = true := mayWrite_of_mem (by simp [destinations])
  refine .putInt ((InstrWork.start _ s).pop hx hsp) ⟨rfl, List.mem_cons_self, ?_, ?_⟩ hp
  · simp [destinations, isExtended]
  · simp [destinations, eq_comm]

theorem done_popf {dst : Rn} (h : exec (.popf dst) s = .next t) : Done (.popf dst) s t := by
  obtain ⟨⟨x, s1⟩, hx, h⟩ := bind_ok.mp (toOutcome_next.mp h)
  cases h
  have hsp : mayWrite (.popf dst) .sp = true := mayWrite_of_mem (by simp [destinations])
  refine .putFlt _ ((InstrWork.start _ s).pop hx hsp) ⟨rfl, List.mem_cons_self, rfl, ?_⟩
  simp [destinations]

/-- The instructions that push and go on. -/
theorem Done.push {x : Word} (hsp : .sp ∈ destinations i) (ha : low24 (s.sp + 1) ∈ storeAddresses i s)
    (hk : flagClass i = none) (h : Machine.push x s = .ok v) : Done i s (sequential v) :=
  .noFlags ((InstrWork.start i s).push h (mayWrite_of_mem hsp) (.inl ha)) hk

theorem done_push {src : Reg} (h : exec (.push src) s = .next t) : Done (.push src) s t := by
  obtain ⟨x, -, h⟩ := bind_ok.mp (toOutcome_next.mp h)
  obtain ⟨s1, hp, h⟩ := bind_ok.mp h
  cases h
  exact .push List.mem_cons_self List.mem_cons_self rfl hp

theorem done_pushf {src : Rn} (h : exec (.pushf src) s = .next t) : Done (.pushf src) s t := by
  obtain ⟨s1, hp, h⟩ := bind_ok.mp (toOutcome_next.mp h)
  cases h
  exact .push List.mem_cons_self List.mem_cons_self rfl hp

/-! ### Interlocked instructions -/

theorem ea_re {m : MemOp} {a : Addr} (h : ea m s = .ok (a, u)) : u.re = s.re := by
  obtain ⟨ar, d, rfl, -⟩ := ea_frame h
  rfl

/-- An interlocked load that completes, with the lines then. -/
theorem Done.load {a : Addr} {x : Word} (hl : LineChange i s l) (hw : InstrWork i l s.st s u)
    (hr : Machine.memRead a u = .ok (x, v)) :
    (∀ n, Writes i .loadFlt (.r n) → Done i s (sequential (putLoadFlt n (widen x) v))) ∧
    (∀ (dst : Reg) (w : State), Writes i .loadInt dst → Machine.putInt .loadInt dst (plainResult x) v = .ok w →
      Done i s (sequential w)) := by
  have work := hw.memRead hr
  refine ⟨fun n hn => ?_, fun dst w hdst hp => ?_⟩
  · obtain ⟨st', hv, hst⟩ := work.putFlt ⟨widen x, false, false⟩ hn (mayWrite_of_mem hn.mem)
    exact .completes hv hl hst
  · obtain ⟨st', hv, hst⟩ := work.putInt hp hdst (mayWrite_of_mem hdst.mem)
    exact .completes hv hl hst

theorem done_ldfi {m : MemOp} {n : Rn} (h : exec (.ldfi m n) s = .next t) : Done (.ldfi m n) s t := by
  obtain ⟨⟨a, s1⟩, he, h⟩ := bind_ok.mp (toOutcome_next.mp h)
  have work := (InstrWork.start (.ldfi m n) s).ea he (auxAllowed _)
  have hi : LocksLoad (.ldfi m n) := .inl ⟨m, n, rfl⟩
  have hw : Writes (.ldfi m n) .loadFlt (.r n) := .of_single rfl rfl
  dsimp only at h
  split at h
  · split at h
    next hack =>
      obtain ⟨s2, hf, h⟩ := bind_ok.mp h
      obtain ⟨⟨x, s3⟩, hr, hf⟩ := bind_ok.mp hf
      cases h
      cases hf
      have hx : s.xf1 = false := by simp [acknowledged] at hack; exact hack.2
      exact (Done.load (.acquire hi hx) (work.driveXf0 false).acquire hr).1 n hw
    next =>
      cases h
      refine .intro (work.driveXf0 false) (.load hi) fun hl hst => ?_
      exact .waits _ (hl ▸ .ldfi hi a n) hst (ea_re he :)
  · obtain ⟨s2, hf, h⟩ := bind_ok.mp h
    obtain ⟨⟨x, s3⟩, hr, hf⟩ := bind_ok.mp hf
    cases h
    cases hf
    exact (Done.load .same work hr).1 n hw

theorem done_ldii {m : MemOp} {r : Reg} (h : exec (.ldii m r) s = .next t) : Done (.ldii m r) s t := by
  obtain ⟨-, h⟩ := need_bind_ok.mp (toOutcome_next.mp h)
  obtain ⟨-, h⟩ := need_bind_ok.mp h
  obtain ⟨⟨a, s1⟩, he, h⟩ := bind_ok.mp h
  have work := (InstrWork.start (.ldii m r) s).ea he (auxAllowed _)
  have hi : LocksLoad (.ldii m r) := .inr ⟨m, r, rfl⟩
  have hw : Writes (.ldii m r) .loadInt r := .of_single rfl rfl
  dsimp only at h
  split at h
  · split at h
    next hack =>
      obtain ⟨s2, hf, h⟩ := bind_ok.mp h
      obtain ⟨⟨x, s3⟩, hr, hf⟩ := bind_ok.mp hf
      cases h
      have hx : s.xf1 = false := by simp [acknowledged] at hack; exact hack.2
      exact (Done.load (.acquire hi hx) (work.driveXf0 false).acquire hr).2 r s2 hw hf
    next =>
      cases h
      refine .intro (work.driveXf0 false) (.load hi) fun hl hst => ?_
      exact .waits _ (hl ▸ .ldii hi a r) hst (ea_re he :)
  · obtain ⟨s2, hf, h⟩ := bind_ok.mp h
    obtain ⟨⟨x, s3⟩, hr, hf⟩ := bind_ok.mp hf
    cases h
    exact (Done.load .same work hr).2 r s2 hw hf

theorem done_storeInterlocked {m : MemOp} {x : Word} (hi : LocksStore i) (hx : indirects i = memIndirects m)
    (hk : flagClass i = none) (ha : ∀ a s1, ea m s = .ok (a, s1) → a ∈ storeAddresses i s)
    (h : storeInterlocked x m s = .ok t) : Done i s t := by
  obtain ⟨⟨a, s1⟩, he, h⟩ := bind_ok.mp h
  have work := (InstrWork.start i s).ea he (auxAllowed_of hx)
  have haddr : mayStore i s a := .inl (ha a s1 he)
  dsimp only at h
  split at h
  · split at h
    next =>
      obtain ⟨s2, hm, h⟩ := bind_ok.mp h
      cases h
      exact .completes ((work.driveXf0 true).memWrite hm haddr) (.store hi) (.of_no_class hk _ _)
    next =>
      cases h
      refine .intro (work.driveXf0 true) (.store hi) fun hl hst => ?_
      exact .waits _ (hl ▸ .store hi a x) hst (ea_re he :)
  · obtain ⟨s2, hm, h⟩ := bind_ok.mp h
    cases h
    exact .noFlags (work.memWrite hm haddr) hk

theorem done_sigi (h : exec .sigi s = .next t) : Done .sigi s t := by
  obtain ⟨hc, h⟩ := guardControl_bind_ok.mp (toOutcome_next.mp h)
  have work := (InstrWork.start .sigi s).driveXf0 false
  unfold awaitSigi at h
  split at h
  · split at h
    · cases h
    · cases h
      refine .intro work (.signal rfl) fun hl hst => ?_
      exact .waits _ (hl ▸ .sigi rfl hc) hst rfl
  · cases h
    exact .completes (work.driveXf0 true).stopWaiting (.answered rfl) (.of_no_class rfl _ _)

/-! ### Program control -/

theorem Done.jump (hw : InstrWork i s.lines s.st s u) (hc : s.pend = none ∧ s.rpts = .off)
    (hk : flagClass i = none) (a : Addr) : Done i s (jump a u) := by
  refine .intro hw .same fun _ hst => ?_
  have he : Machine.jump a u = { u with pc := a, pend := u.pend, rpts := .off, st := s.st } := by
    rw [← hst, ← hc.2, ← hw.rpts]
    rfl
  exact he ▸ .transfers a u.pend .off s.st hc hk hst .plain

theorem Done.delayedJump (hw : InstrWork i s.lines s.st s u) (hc : s.pend = none ∧ s.rpts = .off)
    (hk : flagClass i = none) (a : Addr) : Done i s (delayedJump a u) := by
  refine .intro hw .same fun _ hst => ?_
  have he : Machine.delayedJump a u =
      { u with pc := u.pc + 1, pend := some ⟨a, .three⟩, rpts := .off, st := s.st } := by
    rw [← hst, ← hc.2, ← hw.rpts]
    rfl
  exact he ▸ .transfers _ _ .off s.st hc hk hst .plain

theorem done_bcond {c : Cond} {x : Csrc} (h : exec (.bcond c x) s = .next t) : Done (.bcond c x) s t := by
  obtain ⟨hc, h⟩ := guardControl_bind_ok.mp (toOutcome_next.mp h)
  obtain ⟨a, -, h⟩ := bind_ok.mp h
  cases h
  split
  · exact .jump (InstrWork.start _ s) hc rfl a
  · exact .noFlags (InstrWork.start _ s) rfl

theorem done_bcondD {c : Cond} {x : Csrc} (h : exec (.bcondD c x) s = .next t) : Done (.bcondD c x) s t := by
  obtain ⟨hc, h⟩ := guardControl_bind_ok.mp (toOutcome_next.mp h)
  obtain ⟨a, -, h⟩ := bind_ok.mp h
  cases h
  split
  · exact .delayedJump (InstrWork.start _ s) hc rfl a
  · exact .noFlags (InstrWork.start _ s) rfl

theorem done_dbcond {c : Cond} {n : ARn} {x : Csrc} (h : exec (.dbcond c n x) s = .next t) : Done (.dbcond c n x) s t := by
  obtain ⟨hc, h⟩ := guardControl_bind_ok.mp (toOutcome_next.mp h)
  obtain ⟨a, -, h⟩ := bind_ok.mp h
  cases h
  have work := (InstrWork.start (.dbcond c n x) s).setAr (mayWrite_of_mem List.mem_cons_self)
    (decremented s.params.arauWidth (s.arn n))
  split
  · exact .jump work hc rfl a
  · exact .noFlags work rfl

theorem done_dbcondD {c : Cond} {n : ARn} {x : Csrc} (h : exec (.dbcondD c n x) s = .next t) :
    Done (.dbcondD c n x) s t := by
  obtain ⟨hc, h⟩ := guardControl_bind_ok.mp (toOutcome_next.mp h)
  obtain ⟨a, -, h⟩ := bind_ok.mp h
  cases h
  have work := (InstrWork.start (.dbcondD c n x) s).setAr (mayWrite_of_mem List.mem_cons_self)
    (decremented s.params.arauWidth (s.arn n))
  split
  · exact .delayedJump work hc rfl a
  · exact .noFlags work rfl

theorem done_call {a : Addr} (h : exec (.call a) s = .next t) : Done (.call a) s t := by
  obtain ⟨hc, h⟩ := guardControl_bind_ok.mp (toOutcome_next.mp h)
  obtain ⟨s1, hp, h⟩ := bind_ok.mp h
  cases h
  exact .jump ((InstrWork.start _ s).push hp (mayWrite_of_mem List.mem_cons_self) (.inl List.mem_cons_self)) hc rfl a

theorem done_callcond {c : Cond} {x : Csrc} (h : exec (.callcond c x) s = .next t) : Done (.callcond c x) s t := by
  obtain ⟨hc, h⟩ := guardControl_bind_ok.mp (toOutcome_next.mp h)
  obtain ⟨a, -, h⟩ := bind_ok.mp h
  split at h
  · obtain ⟨s1, hp, h⟩ := bind_ok.mp h
    cases h
    exact .jump ((InstrWork.start _ s).push hp (mayWrite_of_mem List.mem_cons_self) (.inl List.mem_cons_self)) hc rfl a
  · cases h
    exact .noFlags (InstrWork.start _ s) rfl

theorem done_retscond {c : Cond} (h : exec (.retscond c) s = .next t) : Done (.retscond c) s t := by
  obtain ⟨hc, h⟩ := guardControl_bind_ok.mp (toOutcome_next.mp h)
  split at h
  · obtain ⟨⟨x, s1⟩, hp, h⟩ := bind_ok.mp h
    cases h
    exact .jump ((InstrWork.start _ s).pop hp (mayWrite_of_mem List.mem_cons_self)) hc rfl _
  · cases h
    exact .noFlags (InstrWork.start _ s) rfl

theorem done_reticond {c : Cond} (h : exec (.reticond c) s = .next t) : Done (.reticond c) s t := by
  obtain ⟨hc, h⟩ := guardControl_bind_ok.mp (toOutcome_next.mp h)
  split at h
  · obtain ⟨⟨x, s1⟩, hp, h⟩ := bind_ok.mp h
    cases h
    have work := (InstrWork.start (.reticond c) s).pop hp (mayWrite_of_mem List.mem_cons_self)
    refine .intro work .same fun _ hst => ?_
    have he : jump (low24 x) (s1.setSt { s1.st with gie := true }) =
        { s1 with pc := low24 x, pend := s1.pend, rpts := .off, st := { s.st with gie := true } } := by
      rw [← hst, ← hc.2, ← work.rpts]
      rfl
    exact he ▸ .transfers _ _ _ _ hc rfl hst (.returns c rfl)
  · cases h
    exact .noFlags (InstrWork.start _ s) rfl

theorem done_trapcond {c : Cond} {n : Fin 32} (h : exec (.trapcond c n) s = .next t) : Done (.trapcond c n) s t := by
  obtain ⟨hc, h⟩ := guardControl_bind_ok.mp (toOutcome_next.mp h)
  obtain ⟨-, h⟩ := need_bind_ok.mp h
  split at h
  · obtain ⟨⟨a, s1⟩, hv, h⟩ := bind_ok.mp h
    obtain ⟨s2, hp, h⟩ := bind_ok.mp h
    cases h
    have start : InstrWork (.trapcond c n) s.lines s.st s s1 := by
      obtain ⟨-, hv⟩ := need_bind_ok.mp hv
      split at hv
      · cases hv
        exact InstrWork.start _ s
      · obtain ⟨⟨w, s3⟩, hr, hv⟩ := bind_ok.mp hv
        cases hv
        exact (InstrWork.start _ s).memRead hr
    have hsp : s1.sp = s.sp := by
      obtain ⟨-, d, rfl⟩ := trapVector_frame hv
      rfl
    have work := start.push hp (mayWrite_of_mem List.mem_cons_self) (.inl (by rw [hsp]; exact List.mem_cons_self))
    refine .intro work .same fun _ hst => ?_
    have he : jump a (s2.setSt { s2.st with gie := false }) =
        { s2 with pc := a, pend := s2.pend, rpts := .off, st := { s.st with gie := false } } := by
      rw [← hst, ← hc.2, ← work.rpts]
      rfl
    exact he ▸ .transfers _ _ _ _ hc rfl hst (.trap c n rfl)
  · cases h
    exact .noFlags (InstrWork.start _ s) rfl

/-- A write of a register other than ST, by its place in the state. -/
theorem Work.setReg {may : Reg → Prop} {addr : Addr → Prop} (h : Work may addr l st s u) {r : Reg} {x : Word}
    (hw : Machine.writeInt r x u = .ok v) (hr : may r) (hne : r ≠ .st) : Work may addr l st s v := by
  obtain ⟨st', h', hst, -⟩ := h.writeInt hw hr
  exact hst hne ▸ h'

theorem done_rptb {a : Addr} (h : exec (.rptb a) s = .next t) : Done (.rptb a) s t := by
  obtain ⟨hc, h⟩ := guardControl_bind_ok.mp (toOutcome_next.mp h)
  obtain ⟨-, h⟩ := need_bind_ok.mp h
  obtain ⟨-, h⟩ := need_bind_ok.mp h
  obtain ⟨-, h⟩ := need_bind_ok.mp h
  cases h
  have hmay {r : Reg} (hr : r ∈ destinations (.rptb a)) := mayWrite_of_mem hr
  have work := ((InstrWork.start (.rptb a) s).setReg (r := .re) (x := zext32 a) rfl (hmay (by simp [destinations]))
    (by simp)).setReg (r := .rs) (x := zext32 (s.pc + 1)) rfl (hmay (by simp [destinations])) (by simp)
  refine .intro work .same fun _ _ => ?_
  have he := Ends.transfers (u := { s with re := zext32 a, rs := zext32 (s.pc + 1) }) (s.pc + 1) s.pend .off _ hc rfl rfl
    (Transfer.block (i := .rptb a) a rfl)
  rwa [← hc.2] at he

theorem done_rpts {x : Src} (h : exec (.rpts x) s = .next t) : Done (.rpts x) s t := by
  obtain ⟨hc, h⟩ := guardControl_bind_ok.mp (toOutcome_next.mp h)
  obtain ⟨-, h⟩ := need_bind_ok.mp h
  obtain ⟨⟨w, s1⟩, hx, h⟩ := bind_ok.mp h
  obtain ⟨-, h⟩ := need_bind_ok.mp h
  cases h
  have hmay {r : Reg} (hr : r ∈ destinations (.rpts x)) := mayWrite_of_mem hr
  have start := (InstrWork.start (.rpts x) s).srcInt hx (auxAllowed _)
  have work := ((start.setReg (r := .rc) (x := w) rfl (hmay (by simp [destinations])) (by simp)).setReg (r := .rs)
    (x := zext32 (s.pc + 1)) rfl (hmay (by simp [destinations])) (by simp)).setReg (r := .re)
    (x := zext32 (s.pc + 1)) rfl (hmay (by simp [destinations])) (by simp)
  refine .intro work .same fun _ _ => ?_
  have he := Ends.transfers (u := { s1 with rc := w, rs := zext32 (s.pc + 1), re := zext32 (s.pc + 1) }) (s.pc + 1)
    s1.pend .armed _ hc rfl start.status (Transfer.single (i := .rpts x) x rfl (start.pend.trans hc.1) (by simp [low24, zext32]))
  rwa [← start.status] at he

/-! ### IACK, NOP, waiting and low power -/

theorem done_iack {m : MemOp} (h : exec (.iack m) s = .next t) : Done (.iack m) s t := by
  obtain ⟨⟨a, s1⟩, he, h⟩ := bind_ok.mp (toOutcome_next.mp h)
  obtain ⟨⟨x, s2⟩, hr, h⟩ := bind_ok.mp h
  cases h
  have work := (((InstrWork.start (.iack m) s).ea he (auxAllowed _)).driveIack false).memRead hr
  exact .completes (work.driveIack true) (.iack ⟨m, rfl⟩) (.of_no_class rfl _ _)

theorem done_nop {x : Option Indirect} (h : exec (.nop x) s = .next t) : Done (.nop x) s t := by
  cases x with
  | none =>
    cases (h : .next (sequential s) = Host.Outcome.next t)
    exact .noFlags (InstrWork.start (.nop none) s) rfl
  | some j =>
    obtain ⟨⟨a, s1⟩, hj, h⟩ := bind_ok.mp (toOutcome_next.mp h)
    cases h
    exact .noFlags ((InstrWork.start _ s).indirect hj (auxAllowed _)) rfl

theorem done_waitForInterrupt {w : Waiting} (hi : i = .idle ∧ w = .idle ∨ i = .idle2 ∧ w = .idle2)
    (h : waitForInterrupt w s = .ok t) : Done i s t := by
  obtain ⟨hc, h⟩ := guardControl_bind_ok.mp h
  obtain ⟨hgie, h⟩ := need_bind_ok.mp h
  cases h
  exact .intro (InstrWork.start i s) .same fun _ hst => .idles w hi hc hgie hst

theorem Done.setClock (hi : i = .lopower ∨ i = .maxspeed) (c : ClockMode) : Done i s (sequential { s with clock := c }) := by
  refine .completes ((InstrWork.start i s).setClock c) (.clock hi c) (.of_no_class ?_ _ _)
  rcases hi with rfl | rfl <;> rfl

/-! ### Parallel loads, and loads with a store -/

theorem done_ldfLdf {p : LoadPair} (h : exec (.ldfLdf p) s = .next t) : Done (.ldfLdf p) s t := by
  obtain ⟨⟨x, y, s1⟩, hp, h⟩ := bind_ok.mp (toOutcome_next.mp h)
  cases h
  have hmay {r : Reg} (hr : r ∈ destinations (.ldfLdf p)) := mayWrite_of_mem hr
  exact .noFlags ((((InstrWork.start _ s).loadPair hp (auxAllowed _)).setR (hmay (by simp [destinations])) _).setR
    (hmay (by simp [destinations])) _) rfl

theorem done_ldiLdi {p : LoadPair} (h : exec (.ldiLdi p) s = .next t) : Done (.ldiLdi p) s t := by
  obtain ⟨⟨x, y, s1⟩, hp, h⟩ := bind_ok.mp (toOutcome_next.mp h)
  cases h
  have hmay {r : Reg} (hr : r ∈ destinations (.ldiLdi p)) := mayWrite_of_mem hr
  exact .noFlags ((((InstrWork.start _ s).loadPair hp (auxAllowed _)).setR (hmay (by simp [destinations])) _).setR
    (hmay (by simp [destinations])) _) rfl

theorem done_loadStore {p : OneStore} {a : Addr} {x : Ext} {y : Word} (hi : StorePairing i s p.src2 p.dst2)
    (hk : flagClass i = none) (hd : .r p.dst1 ∈ destinations i) {w : Word} (hp : pairStart p.src2 p.dst2 s = .ok (w, a, u))
    (hm : memWrite a y (u.setR p.dst1 x) = .ok v) : Done i s (sequential v) := by
  obtain ⟨h1, ha⟩ := InstrWork.pairStart hi hp
  exact .noFlags ((h1.setR (mayWrite_of_mem hd) x).memWrite hm ha) hk

end Sys2Proof.Machine
end

section
/-! Every instruction that answers a next state stays within its frame. -/
namespace Sys2Proof.Machine

variable {i : Instr} {s t : State}

theorem exec_done (h : exec i s = .next t) : Done i s t := by
  cases i with
  | addc src dst | addi src dst | and src dst | andn src dst | ash src dst | lsh src dst | or src dst | subb src dst
  | subi src dst | subrb src dst | subri src dst | xor src dst =>
    exact done_intOp rfl (.of_single rfl rfl) (toOutcome_next.mp h)
  | absi src dst | ldi src dst | negb src dst | negi src dst | not src dst =>
    exact done_intUnary rfl (.of_single rfl rfl) (toOutcome_next.mp h)
  | cmpi src dst | tstb src dst => exact done_intTest rfl rfl rfl (toOutcome_next.mp h)
  | mpyi src dst => exact done_mpyi h
  | subc src dst => exact done_subc h
  | addf src dst | mpyf src dst | subf src dst | subrf src dst =>
    exact done_fltOp rfl (.of_single rfl rfl) (toOutcome_next.mp h)
  | absf src dst | negf src dst | norm src dst | rnd src dst =>
    exact done_fltUnary rfl (.of_single rfl rfl) (toOutcome_next.mp h)
  | cmpf src dst => exact done_cmpf h
  | fix src dst => exact done_fix h
  | float src dst => exact done_float h
  | lde src dst => exact done_lde h
  | ldf src dst => exact done_ldf h
  | ldm src dst => exact done_ldm h
  | stf src m => exact done_storeAt rfl rfl (fun a s1 he => by simp [storeAddresses, he]) (toOutcome_next.mp h)
  | sti src m => exact done_sti h
  | pop dst => exact done_pop h
  | popf dst => exact done_popf h
  | push src => exact done_push h
  | pushf src => exact done_pushf h
  | ldp page => exact done_ldp h
  | ldfi m n => exact done_ldfi h
  | ldii m r => exact done_ldii h
  | stfi n m =>
    exact done_storeInterlocked (.inl ⟨n, m, rfl⟩) rfl rfl (fun a s1 he => by simp [storeAddresses, he])
      (toOutcome_next.mp h)
  | stii r m =>
    obtain ⟨x, -, h⟩ := bind_ok.mp (toOutcome_next.mp h)
    exact done_storeInterlocked (.inr ⟨r, m, rfl⟩) rfl rfl (fun a s1 he => by simp [storeAddresses, he]) h
  | sigi => exact done_sigi h
  | rol dst | rolc dst | ror dst | rorc dst => exact done_rotate (.of_single rfl rfl) (toOutcome_next.mp h)
  | idle => exact done_waitForInterrupt (.inl ⟨rfl, rfl⟩) (toOutcome_next.mp h)
  | idle2 =>
    obtain ⟨-, h⟩ := need_bind_ok.mp (toOutcome_next.mp h)
    exact done_waitForInterrupt (.inr ⟨rfl, rfl⟩) h
  | nop x => exact done_nop h
  | maxspeed =>
    obtain ⟨-, h⟩ := need_bind_ok.mp (toOutcome_next.mp h)
    obtain ⟨-, h⟩ := need_bind_ok.mp h
    cases h
    exact .setClock (.inr rfl) _
  | lopower =>
    obtain ⟨-, h⟩ := need_bind_ok.mp (toOutcome_next.mp h)
    obtain ⟨-, h⟩ := need_bind_ok.mp h
    cases h
    exact .setClock (.inl rfl) _
  | rpts x => exact done_rpts h
  | iack m => exact done_iack h
  | addc3 x y dst | addi3 x y dst | and3 x y dst | andn3 x y dst | ash3 x y dst | lsh3 x y dst | or3 x y dst
  | subb3 x y dst | subi3 x y dst | xor3 x y dst => exact done_int3 rfl (.of_single rfl rfl) (toOutcome_next.mp h)
  | cmpi3 x y | tstb3 x y => exact done_intTest3 rfl rfl rfl (toOutcome_next.mp h)
  | mpyi3 x y dst => exact done_mpyi3 h
  | addf3 x y dst | mpyf3 x y dst | subf3 x y dst => exact done_flt3 rfl (.of_single rfl rfl) (toOutcome_next.mp h)
  | cmpf3 x y => exact done_cmpf3 h
  | ldfcond c src dst => exact done_ldfcond h
  | ldicond c src dst => exact done_ldicond h
  | br a =>
    obtain ⟨hc, h⟩ := guardControl_bind_ok.mp (toOutcome_next.mp h)
    cases h
    exact .jump (InstrWork.start _ s) hc rfl a
  | brd a =>
    obtain ⟨hc, h⟩ := guardControl_bind_ok.mp (toOutcome_next.mp h)
    cases h
    exact .delayedJump (InstrWork.start _ s) hc rfl a
  | call a => exact done_call h
  | rptb a => exact done_rptb h
  | swi => cases h
  | bcond c x => exact done_bcond h
  | bcondD c x => exact done_bcondD h
  | dbcond c n x => exact done_dbcond h
  | dbcondD c n x => exact done_dbcondD h
  | callcond c x => exact done_callcond h
  | trapcond c n => exact done_trapcond h
  | reticond c => exact done_reticond h
  | retscond c => exact done_retscond h
  | mpyf3Addf3 p | mpyf3Subf3 p => exact done_mulPairFltOp ⟨rfl, rfl, rfl⟩ (toOutcome_next.mp h)
  | mpyi3Addi3 p | mpyi3Subi3 p => exact done_mulPairIntOp ⟨rfl, rfl, rfl⟩ (toOutcome_next.mp h)
  | stfStf p | stiSti p =>
    exact done_storePair rfl rfl (fun a b s1 s2 ha hb => by simp [storeAddresses, ha, hb]) (toOutcome_next.mp h)
  | ldfLdf p => exact done_ldfLdf h
  | ldiLdi p => exact done_ldiLdi h
  | absfStf p | floatStf p | negfStf p =>
    exact done_oneStf ⟨rfl, fun a s1 ha => by simp [storeAddresses, ha]⟩ (.of_single rfl rfl) (toOutcome_next.mp h)
  | absiSti p | fixSti p | negiSti p | notSti p =>
    exact done_oneSti ⟨rfl, fun a s1 ha => by simp [storeAddresses, ha]⟩ (.of_single rfl rfl) (toOutcome_next.mp h)
  | addf3Stf p | mpyf3Stf p | subf3Stf p =>
    exact done_twoStf ⟨rfl, fun a s1 ha => by simp [storeAddresses, ha]⟩ (.of_single rfl rfl) (toOutcome_next.mp h)
  | addi3Sti p | and3Sti p | ash3Sti p | lsh3Sti p | or3Sti p | subi3Sti p | xor3Sti p =>
    exact done_twoSti ⟨rfl, fun a s1 ha => by simp [storeAddresses, ha]⟩ (.of_single rfl rfl) (toOutcome_next.mp h)
  | mpyi3Sti p => exact done_mpyi3Sti ⟨rfl, fun a s1 ha => by simp [storeAddresses, ha]⟩ h
  | ldfStf p =>
    obtain ⟨⟨w, a, s1⟩, hp, h⟩ := bind_ok.mp (toOutcome_next.mp h)
    obtain ⟨s2, hm, h⟩ := bind_ok.mp h
    cases h
    exact done_loadStore ⟨rfl, fun a s1 ha => by simp [storeAddresses, ha]⟩ rfl List.mem_cons_self hp hm
  | ldiSti p =>
    obtain ⟨⟨w, a, s1⟩, hp, h⟩ := bind_ok.mp (toOutcome_next.mp h)
    have hm := (bind_ok (x := memWrite a (intView (s.rn p.src3)) (s1.setR p.dst1 (withInt (s1.rn p.dst1) w)))).mp h
    obtain ⟨s3, hm, h⟩ := hm
    cases h
    exact done_loadStore ⟨rfl, fun a s1 ha => by simp [storeAddresses, ha]⟩ rfl List.mem_cons_self hp hm

end Sys2Proof.Machine
end

section
/-! The frames of an instruction: registers, flags, memory and the rest of the state. -/
namespace Sys2Proof.Machine

variable {i : Instr} {p : FlagPolicy} {s t u : State} {st st' : Status}

/-! ### The end of an instruction -/

theorem sequential_st (s : State) : (sequential s).st = { s.st with rm := (sequential s).st.rm } :=
  congrArg State.st (sequential_frame s)

/-- A completed instruction keeps RC and RM unless it ends a block. -/
theorem sequential_rc_rm (h : s.atRepeatEnd = false) : (sequential s).rc = s.rc ∧ (sequential s).st.rm = s.st.rm := by
  rw [sequential_of_not_end h]
  exact ⟨rfl, rfl⟩

theorem sequential_contents (s : State) {r : Reg} (hst : r ≠ .st) (hrc : r ≠ .rc) :
    (sequential s).contents r = s.contents r := by
  rw [sequential_frame]
  cases r <;> first | contradiction | rfl

theorem atRepeatEnd_eq_false_of_rm (h : s.st.rm = false) : s.atRepeatEnd = false := by
  simp [State.atRepeatEnd, h]

theorem not_mem_of_mayWrite {r : Reg} (h : mayWrite i r = false) : r ∉ destinations i := fun hmem => by
  rw [mayWrite_of_mem hmem] at h
  cases h

/-! ### The status register -/

/-- A flag update leaves the control bits. -/
theorem StatusChange.controlBits (h : StatusChange i p st st') (hst : .st ∉ destinations i) :
    st'.ovm = st.ovm ∧ st'.rm = st.rm ∧ st'.cf = st.cf ∧ st'.ce = st.ce ∧ st'.cc = st.cc ∧ st'.gie = st.gie := by
  cases h with
  | keep | update | carry => exact ⟨rfl, rfl, rfl, rfl, rfl, rfl⟩
  | written _ h => exact absurd h hst

theorem StatusChange.ovm (h : StatusChange i p st st') (hovm : st.ovm = false) : st'.ovm = false := by
  cases h with
  | keep | update | carry => exact hovm
  | written _ _ h => exact h

/-- A flag that its row keeps, or that the last column excludes, stays. -/
theorem StatusChange.flag (h : StatusChange i p st st') {f : Flag} (hf : mayWriteFlag p i f = false) :
    st'.flag f = st.flag f := by
  rw [mayWriteFlag, Bool.or_eq_false_iff] at hf
  obtain ⟨hst, hrow⟩ := hf
  cases h with
  | keep => rfl
  | update k g hk _ hlast =>
    simp only [hk, Bool.and_eq_false_iff, Bool.or_eq_false_iff] at hrow
    have hkeep : flagEntry (flagRow p k) f = .keep := by
      rcases hrow with hkeep | ⟨⟨⟨ha, -⟩, hempty⟩, hext⟩
      · simpa using hkeep
      · rcases hlast with hlast | hlast | hlast
        · simp [hlast] at ha
        · simp [hlast] at hempty
        · simp [hlast] at hext
    cases f <;> simp only [flagEntry] at hkeep <;> simp [Status.flag, hkeep]
  | carry k g hk _ hc =>
    obtain ⟨hc, -⟩ := hc
    simp only [hk, hc, Bool.true_and, Bool.and_eq_false_iff, Bool.or_eq_false_iff] at hrow
    cases f with
    | c =>
      have hkeep : (flagRow p k).c = .keep := by simpa [flagEntry] using hrow
      simp [Status.flag, hkeep]
    | _ => rfl
  | written _ hmem => simp [hmem] at hst

/-- With the default table LV and LUF accumulate V' and UF' wherever V and UF are written, and are kept elsewhere. -/
theorem defaultFlagPolicy_latches (k : FlagClass) :
    ((flagRow defaultFlagPolicy k).lv = .keep ∨ (flagRow defaultFlagPolicy k).lv = .accumulate) ∧
    ((flagRow defaultFlagPolicy k).luf = .keep ∨ (flagRow defaultFlagPolicy k).luf = .accumulate) ∧
    ((flagRow defaultFlagPolicy k).v = .write → (flagRow defaultFlagPolicy k).lv = .accumulate) ∧
    ((flagRow defaultFlagPolicy k).uf = .write → (flagRow defaultFlagPolicy k).luf = .accumulate) ∧
    (flagRow defaultFlagPolicy k).v ≠ .accumulate ∧ (flagRow defaultFlagPolicy k).uf ≠ .accumulate := by
  cases k <;> decide

theorem latch_kept {e : FlagEffect} {old new : Bool} (he : e = .keep ∨ e = .accumulate) (h : old = true) :
    flagAfter e old new = true := by
  rcases he with rfl | rfl <;> simp [h]

/-- A flag that was written and is set has set its latch. -/
theorem latch_set {e latch : FlagEffect} {old oldLatch new : Bool} (hlatch : e = .write → latch = .accumulate)
    (he : e ≠ .keep) (hne : e ≠ .accumulate) (h : flagAfter e old new = true) : flagAfter latch oldLatch new = true := by
  cases e with
  | keep => contradiction
  | clear => cases h
  | write => simp [hlatch rfl, show new = true from h]
  | accumulate => contradiction

theorem flagEntry_ne_keep {f : Flag} {k : FlagClass} (hk : flagClass i = some k) (hst : .st ∉ destinations i)
    (hf : mayWriteFlag p i f = true) : flagEntry (flagRow p k) f ≠ .keep := by
  rw [mayWriteFlag, Bool.or_eq_true] at hf
  rcases hf with hf | hf
  · exact absurd (by simpa using hf) hst
  · simp only [hk, Bool.and_eq_true, bne_iff_ne] at hf
    exact hf.1

/-- An instruction that may write a flag other than C has not kept or written C alone. -/
theorem not_mayWriteFlag_of_last {f : Flag} {k : FlagClass} (hk : flagClass i = some k) (hst : .st ∉ destinations i)
    (hf : f ≠ .c) (hc : (flagRow p k).always = false ∧ destinations i ≠ [] ∧ (destinations i).any isExtended = false) :
    mayWriteFlag p i f = false := by
  obtain ⟨ha, hne, hext⟩ := hc
  simp [mayWriteFlag, hst, hk, ha, hne, hext, hf]

theorem not_mayWriteFlag_of_no_class {f : Flag} (hk : flagClass i = none) (hst : .st ∉ destinations i) :
    mayWriteFlag p i f = false := by
  simp [mayWriteFlag, hst, hk]

theorem StatusChange.latches (h : StatusChange i defaultFlagPolicy st st') (hst : .st ∉ destinations i) :
    (st.lv = true → st'.lv = true) ∧ (st.luf = true → st'.luf = true) ∧
    (mayWriteFlag defaultFlagPolicy i .v = true → st'.v = true → st'.lv = true) ∧
    (mayWriteFlag defaultFlagPolicy i .uf = true → st'.uf = true → st'.luf = true) := by
  cases h with
  | keep hkeep =>
    have hnone {f : Flag} (hf : f ≠ .c) : mayWriteFlag defaultFlagPolicy i f = false := by
      cases hk : flagClass i with
      | none => exact not_mayWriteFlag_of_no_class hk hst
      | some k =>
        obtain ⟨hne, hext, ha, -⟩ := hkeep k hk
        exact not_mayWriteFlag_of_last hk hst hf ⟨ha, hne, hext⟩
    exact ⟨id, id, fun hv => by simp [hnone] at hv, fun hu => by simp [hnone] at hu⟩
  | update k f hk _ hlast =>
    obtain ⟨hlv, hluf, hv, huf, hv', huf'⟩ := defaultFlagPolicy_latches k
    exact ⟨latch_kept hlv, latch_kept hluf, fun hmay => latch_set hv (flagEntry_ne_keep hk hst hmay) hv',
      fun hmay => latch_set huf (flagEntry_ne_keep hk hst hmay) huf'⟩
  | carry k f hk _ hc =>
    obtain ⟨-, hc⟩ := hc
    have hnone {f : Flag} (hf : f ≠ .c) := not_mayWriteFlag_of_last hk hst hf hc
    exact ⟨id, id, fun hv => by simp [hnone] at hv, fun hu => by simp [hnone] at hu⟩
  | written _ hmem => exact absurd hmem hst

/-! ### The obligations on frames -/

/-- Settles O10: each end of an instruction keeps what its work keeps; RC falls or is cleared at RE only with RM set. -/
theorem registerFrame : Obligations.RegisterFrame := by
  unfold Obligations.RegisterFrame
  intro i s t r h hst hr hrc
  obtain ⟨u, work, -, hends⟩ := exec_done h
  refine .trans ?_ (work.regs r hst (by simp [hr]))
  cases hends with
  | completes hstatus =>
    by_cases he : r = .rc
    · obtain ⟨hrm, hstw⟩ := hrc he
      obtain ⟨-, hrm', -⟩ := hstatus.controlBits (not_mem_of_mayWrite hstw)
      subst he
      exact congrArg (BitVec.setWidth 40) (sequential_rc_rm (atRepeatEnd_eq_false_of_rm (hrm'.trans hrm))).1
    · exact sequential_contents u hst he
  | waits w hw hs hre => cases r <;> rfl
  | idles w hi hc hgie hs => cases r <;> rfl
  | transfers a p ph st hc hk hst' ht =>
    cases r with
    | st => contradiction
    | _ => rfl

/-- Settles O13: after the work no end of an instruction touches memory. -/
theorem memoryFrame : Obligations.MemoryFrame := by
  unfold Obligations.MemoryFrame
  intro i s t a h ha hb
  obtain ⟨u, work, -, hends⟩ := exec_done h
  have hmem : t.mem = u.mem := by
    cases hends with
    | completes => exact by rw [sequential_frame]
    | waits | idles | transfers => rfl
  rw [hmem]
  exact work.mem a fun hmay => hmay.elim ha fun ⟨v, hv⟩ => hb v hv

theorem sequential_flag (s : State) (f : Flag) : (sequential s).st.flag f = s.st.flag f := by
  rw [sequential_st]
  cases f <;> rfl

/-- A transfer changes GIE or RM of the status register at most. -/
theorem Transfer.status {a : Addr} {q : Option Pending} {ph : RptsPhase} (h : Transfer i s u a q ph st) :
    (∀ f, st.flag f = s.st.flag f) ∧ st.ovm = s.st.ovm ∧ st.cf = s.st.cf ∧ st.ce = s.st.ce ∧ st.cc = s.st.cc ∧
      (st.gie = s.st.gie ∨ (∃ c n, i = .trapcond c n ∧ st.gie = false) ∨ (∃ c, i = .reticond c ∧ st.gie = true)) ∧
      (st.rm = s.st.rm ∨ (∃ a, i = .rptb a) ∨ (∃ x, i = .rpts x)) := by
  cases h with
  | plain => exact ⟨fun f => rfl, rfl, rfl, rfl, rfl, .inl rfl, .inl rfl⟩
  | trap c n hi => exact ⟨fun f => by cases f <;> rfl, rfl, rfl, rfl, rfl, .inr (.inl ⟨c, n, hi, rfl⟩), .inl rfl⟩
  | returns c hi => exact ⟨fun f => by cases f <;> rfl, rfl, rfl, rfl, rfl, .inr (.inr ⟨c, hi, rfl⟩), .inl rfl⟩
  | block b hi => exact ⟨fun f => by cases f <;> rfl, rfl, rfl, rfl, rfl, .inl rfl, .inr (.inl ⟨b, hi⟩)⟩
  | single x hi => exact ⟨fun f => by cases f <;> rfl, rfl, rfl, rfl, rfl, .inl rfl, .inr (.inr ⟨x, hi⟩)⟩

/-- RM after a completed instruction that does not write ST: a block has ended, or it is as before. -/
theorem sequential_rm (work : InstrWork i u.lines u.st s u) (hstatus : StatusChange i s.params.flagPolicy s.st u.st)
    (hst : mayWrite i .st = false) :
    (sequential u).st.rm = s.st.rm ∨ s.atRepeatEnd = true ∨ mayWrite i .re = true := by
  obtain ⟨-, hrm, -⟩ := hstatus.controlBits (not_mem_of_mayWrite hst)
  by_cases hend : u.atRepeatEnd = true
  · by_cases hre : mayWrite i .re = true
    · exact .inr (.inr hre)
    · have hsame : u.re = s.re := by
        have hcontents : u.re.setWidth 40 = s.re.setWidth 40 := work.regs .re (by simp) hre
        have hnarrow := congrArg (BitVec.setWidth 32) hcontents
        simpa using hnarrow
      refine .inr (.inl ?_)
      rwa [State.atRepeatEnd, hrm, work.pc, hsame] at hend
  · exact .inl ((sequential_rc_rm (by simpa using hend)).2.trans hrm)

/-- Settles O11: what an instruction does to ST, end by end. -/
theorem flagFrameAndLatches : Obligations.FlagFrameAndLatches := by
  unfold Obligations.FlagFrameAndLatches
  refine ⟨fun i s t h => ?_, fun i s t h hst hp => ?_⟩
  · obtain ⟨u, work, -, hends⟩ := exec_done h
    cases hends with
    | completes hstatus =>
      refine ⟨fun f hf => (sequential_flag u f).trans (hstatus.flag hf), fun hst => ?_⟩
      obtain ⟨hovm, -, hcf, hce, hcc, hgie⟩ := hstatus.controlBits (not_mem_of_mayWrite hst)
      have hrm := sequential_rm work hstatus hst
      refine ⟨?_, ?_, ?_, ?_, .inl ?_, hrm.imp_right fun h => .inr (.inr h)⟩ <;> rw [sequential_st]
      · exact hovm
      · exact hcf
      · exact hce
      · exact hcc
      · exact hgie
    | waits w hw hs hre =>
      rw [show ({ u with waiting := some w } : State).st = s.st from hs]
      exact ⟨fun _ _ => rfl, fun _ => ⟨rfl, rfl, rfl, rfl, .inl rfl, .inl rfl⟩⟩
    | idles w hi hc hgie hs =>
      rw [show ({ u with pc := u.pc + 1, waiting := some w } : State).st = s.st from hs]
      exact ⟨fun _ _ => rfl, fun _ => ⟨rfl, rfl, rfl, rfl, .inl rfl, .inl rfl⟩⟩
    | transfers a q ph st hc hk hst' ht =>
      obtain ⟨hflag, hovm, hcf, hce, hcc, hgie, hrm⟩ := ht.status
      exact ⟨fun f _ => hflag f, fun _ => ⟨hovm, hcf, hce, hcc, hgie, hrm.imp_right fun h => h.imp_right .inl⟩⟩
  · obtain ⟨u, work, -, hends⟩ := exec_done h
    have hno := not_mem_of_mayWrite hst
    cases hends with
    | completes hstatus =>
      rw [hp] at hstatus ⊢
      obtain ⟨hlv, hluf, hv, huf⟩ := hstatus.latches hno
      rw [sequential_st]
      exact ⟨hlv, hluf, fun _ => hv, fun _ => huf⟩
    | waits w hw hs hre =>
      rw [show ({ u with waiting := some w } : State).st = s.st from hs]
      exact ⟨id, id, (fun hn => by cases hn), (fun hn => by cases hn)⟩
    | idles w hi hc hgie hs =>
      rw [show ({ u with pc := u.pc + 1, waiting := some w } : State).st = s.st from hs]
      exact ⟨id, id, (fun hn => by cases hn), (fun hn => by cases hn)⟩
    | transfers a q ph st hc hk hst' ht =>
      obtain ⟨hflag, -⟩ := ht.status
      have hnone (f : Flag) : mayWriteFlag s.params.flagPolicy i f = false := not_mayWriteFlag_of_no_class hk hno
      exact ⟨(hflag .lv).trans, (hflag .luf).trans, fun _ hv => by simp [hnone] at hv, fun _ hu => by simp [hnone] at hu⟩

end Sys2Proof.Machine
end

section
/-! The lines, the waits and the rest of the state after an instruction. -/
namespace Sys2Proof.Machine

variable {i : Instr} {s t u : State} {l : Lines}

/-! ### The lines -/

/-- An interlocked instruction. -/
def Locks (i : Instr) : Prop := (∃ m n, i = .ldfi m n) ∨ (∃ m r, i = .ldii m r) ∨ (∃ n m, i = .stfi n m) ∨
  (∃ r m, i = .stii r m) ∨ i = .sigi

theorem LocksLoad.locks (h : LocksLoad i) : Locks i := h.imp_right .inl

theorem LocksStore.locks (h : LocksStore i) : Locks i := .inr (.inr (h.imp_right .inl))

theorem Locks.of_sigi (h : i = .sigi) : Locks i := .inr (.inr (.inr (.inr h)))

theorem LineChange.iack_eq (h : LineChange i s l) : l.iack = s.iack ∨ (∃ m, i = .iack m) ∧ l.iack = true := by
  cases h with
  | iack hi => exact .inr ⟨hi, rfl⟩
  | same | clock | load | acquire | store | signal | answered => exact .inl rfl

theorem LineChange.xf0_eq (h : LineChange i s l) : l.xf0 = s.xf0 ∨ Locks i := by
  cases h with
  | same | iack | clock => exact .inl rfl
  | load hi | acquire hi => exact .inr hi.locks
  | store hi => exact .inr hi.locks
  | signal hi | answered hi => exact .inr (.of_sigi hi)

theorem LineChange.lock_eq (h : LineChange i s l) :
    l.lock = s.lock ∨ (LocksLoad i ∧ s.xf1 = false ∧ l.lock = true) ∨ ((LocksStore i ∨ i = .sigi) ∧ l.lock = false) := by
  cases h with
  | same | iack | clock | load | signal => exact .inl rfl
  | acquire hi hx => exact .inr (.inl ⟨hi, hx, rfl⟩)
  | store hi => exact .inr (.inr ⟨.inl hi, rfl⟩)
  | answered hi => exact .inr (.inr ⟨.inr hi, rfl⟩)

theorem LineChange.trace_grows (h : LineChange i s l) :
    (∃ new, l.trace = new ++ s.trace) ∧ (l.trace = s.trace ∨ (∃ m, i = .iack m) ∨ Locks i) := by
  cases h with
  | same | clock => exact ⟨⟨[], rfl⟩, .inl rfl⟩
  | iack hi => exact ⟨⟨[_, _], rfl⟩, .inr (.inl hi)⟩
  | load hi | acquire hi => exact ⟨⟨[_], rfl⟩, .inr (.inr hi.locks)⟩
  | store hi => exact ⟨⟨[_], rfl⟩, .inr (.inr hi.locks)⟩
  | signal hi => exact ⟨⟨[_], rfl⟩, .inr (.inr (.of_sigi hi))⟩
  | answered hi => exact ⟨⟨[_, _], rfl⟩, .inr (.inr (.of_sigi hi))⟩

theorem LineChange.clock_eq (h : LineChange i s l) : l.clock = s.clock ∨ i = .lopower ∨ i = .maxspeed := by
  cases h with
  | clock hi => exact .inr hi
  | same | iack | load | acquire | store | signal | answered => exact .inl rfl

/-- While the interlock is held XF0 is active, as long as it was so before (R412). -/
theorem LineChange.locks (h : LineChange i s l) (hs : s.lock = true → s.xf0 = false) : l.lock = true → l.xf0 = false := by
  cases h with
  | same | iack | clock => exact hs
  | load | acquire | signal => exact fun _ => rfl
  | store | answered => exact fun h => by cases h

/-! ### The end of an instruction -/

/-- What no end of an instruction changes. -/
structure KeptByEnd (u t : State) : Prop where
  fixed : t.xf1 = u.xf1 ∧ t.rdyInt = u.rdyInt ∧ t.xrdyInt = u.xrdyInt ∧ t.env = u.env ∧ t.ir = u.ir ∧ t.params = u.params ∧
    t.sources = u.sources ∧ t.ran = u.ran ∧ t.ie = u.ie ∧ t.ifr = u.ifr ∧ t.iof = u.iof
  stored : t.stored = u.stored
  mem : t.mem = u.mem
  between : t.between = u.between
  lines : t.lines = u.lines
  draws : u.draws ≤ t.draws

theorem sequential_draws (s : State) : s.draws ≤ (sequential s).draws := by
  unfold sequential
  split
  · split
    · exact Nat.le_succ _
    · exact le_rfl
  · exact le_rfl

theorem KeptByEnd.sequential (u : State) : KeptByEnd u (sequential u) := by
  have hdraws := sequential_draws u
  rw [sequential_frame] at hdraws ⊢
  exact ⟨⟨rfl, rfl, rfl, rfl, rfl, rfl, rfl, rfl, rfl, rfl, rfl⟩, rfl, rfl, rfl, rfl, hdraws⟩

theorem Ends.kept (h : Ends i s u t) : KeptByEnd u t := by
  cases h with
  | completes => exact .sequential u
  | waits | idles | transfers =>
    exact ⟨⟨rfl, rfl, rfl, rfl, rfl, rfl, rfl, rfl, rfl, rfl, rfl⟩, rfl, rfl, rfl, rfl, le_rfl⟩

theorem WaitStart.locks {w : Waiting} (h : WaitStart i s l w) : Locks i := by
  cases h with
  | ldfi hi | ldii hi => exact hi.locks
  | store hi => exact hi.locks
  | sigi hi => exact .of_sigi hi

theorem Ends.waiting (h : Ends i s u t) (hu : u.waiting = none) :
    t.waiting = none ∨ Locks i ∨ i = .idle ∨ i = .idle2 := by
  cases h with
  | completes => exact .inl (by rw [sequential_frame]; exact hu)
  | transfers => exact .inl hu
  | waits w hw hs hre => exact .inr (.inl hw.locks)
  | idles w hi => exact .inr (.inr (hi.imp And.left And.left))

/-- Settles O14: the work of an instruction, its lines and its end, each with what it keeps. -/
theorem otherStateFrame : Obligations.OtherStateFrame := by
  unfold Obligations.OtherStateFrame
  intro i s t h
  obtain ⟨u, work, hlines, hends⟩ := exec_done h
  obtain ⟨⟨hxf1, hrdy, hxrdy, henv, hir, hparams, hsources, hran, -⟩, hstored, -, hbetween, htlines, hdraws⟩ := hends.kept
  rw [← htlines] at hlines
  refine ⟨⟨?_, ?_, ?_, ?_, ?_, hparams.trans work.params, hsources.trans work.sources, hran.trans work.ran,
    hstored ▸ work.stored, work.draws.trans hdraws⟩, hbetween ▸ work.between, hlines.iack_eq, ?_, ?_, ?_, hlines.clock_eq, ?_⟩
  · exact hxf1.trans (work.field State.xf1)
  · exact hrdy.trans (work.field State.rdyInt)
  · exact hxrdy.trans (work.field State.xrdyInt)
  · exact henv.trans (work.field State.env)
  · exact hir.trans (work.field State.ir)
  · exact hlines.xf0_eq
  · exact hlines.lock_eq.imp_right (Or.imp_right fun ⟨hi, hl⟩ => ⟨or_assoc.mp hi, hl⟩)
  · exact hlines.trace_grows
  · intro hw
    have hu : u.waiting = none := work.waiting.elim (fun he => he.trans hw) id
    refine (hends.waiting hu).imp_right fun hi => ?_
    rcases hi with hi | hi
    · exact hi.imp_right (Or.imp_right (Or.imp_right (Or.imp_right .inl)))
    · exact .inr (.inr (.inr (.inr (.inr hi))))

end Sys2Proof.Machine
end

section
/-!
Every step keeps the invariant. The part of it that does not speak of the repeat and of the wait (`InvCore`) goes through all
work; the rest is looked at where an instruction ends, where a wait goes on and where an interrupt is entered.
-/
namespace Sys2Proof.Machine

variable {i : Instr} {s t u : State} {l : Lines} {st : Status} {may : Reg → Prop} {addr : Addr → Prop}

/-- The invariant without its conditions on the repeat and on the wait. -/
structure InvCore (s : State) : Prop where
  memory : s.mem.wf = true
  noOvm : s.st.ovm = false
  ackHigh : s.iack = true
  fixed : ∀ a ∈ s.ran, a ∉ s.stored
  locks : s.lock = true → s.xf0 = false

theorem Inv.core (h : Inv s) : InvCore s := ⟨h.memory, h.noOvm, h.ackHigh, h.fixed, h.locks⟩

theorem InvCore.inv (h : InvCore s) (hr : s.repeatsOne = true) (hw : s.waitsLegally = true) : Inv s :=
  ⟨h.memory, h.noOvm, h.ackHigh, hr, hw, h.fixed, h.locks⟩

theorem InvCore.work (h : InvCore s) (work : Work may addr l st s u) (hovm : st.ovm = false) (hack : l.iack = true)
    (hlocks : l.lock = true → l.xf0 = false) : InvCore u where
  memory := work.canonical h.memory
  noOvm := work.status ▸ hovm
  ackHigh := (congrArg Lines.iack work.lines).trans hack
  fixed := fun a ha hs => by
    rw [work.ran] at ha
    exact (work.newStored a hs).elim (h.fixed a ha) (fun hn => hn ha)
  locks := by
    obtain rfl := work.lines
    exact hlocks

/-- Work that leaves the lines and the status register as they are. -/
theorem InvCore.quiet (h : InvCore s) (work : Work may addr s.lines s.st s u) : InvCore u :=
  h.work work h.noOvm h.ackHigh h.locks

theorem InvCore.of_kept (h : InvCore u) (hk : KeptByEnd u t) (hovm : t.st.ovm = false) : InvCore t where
  memory := hk.mem ▸ h.memory
  noOvm := hovm
  ackHigh := (congrArg Lines.iack hk.lines).trans h.ackHigh
  fixed := by
    obtain ⟨-, -, -, -, -, -, -, hran, -⟩ := hk.fixed
    rw [hran, hk.stored]
    exact h.fixed
  locks := by
    have hl := hk.lines
    simp only [State.lines, Lines.mk.injEq] at hl
    obtain ⟨hxf0, hlock, -⟩ := hl
    rw [hxf0, hlock]
    exact h.locks

/-! ### The repeat and the wait -/

theorem repeatsOne_of_off (h : s.rpts = .off) : s.repeatsOne = true := by simp [State.repeatsOne, h]

theorem waitsLegally_of_none (h : s.waiting = none) : s.waitsLegally = true := by simp [State.waitsLegally, h]

/-- Under RPTS no delayed branch is pending. -/
theorem Inv.pend_of_rpts (h : Inv s) (hr : s.rpts ≠ .off) : s.pend = none := by
  have := h.repeats
  simp only [State.repeatsOne, Bool.or_eq_true, beq_iff_eq, hr, Bool.and_eq_true, Option.isNone_iff_eq_none,
    false_or] at this
  exact this.1.1

/-- A completed instruction leaves a repeat that stands at RE with RM set, or none (R376, R377). -/
theorem sequential_repeatsOne (h : s.rpts ≠ .off → s.pend = none) : (sequential s).repeatsOne = true := by
  unfold sequential
  split
  next hend =>
    obtain ⟨hrm, hpc⟩ : s.st.rm = true ∧ s.pc = low24 s.re := by simpa [State.atRepeatEnd] using hend
    split
    · exact repeatsOne_of_off rfl
    · by_cases hoff : s.rpts = .off
      · exact repeatsOne_of_off (by simp [hoff])
      · have hpend := h hoff
        by_cases hrs : low24 s.rs = s.pc
        · simp [State.repeatsOne, hpend, Pending.advance, hrm, hrs, hpc]
        · exact repeatsOne_of_off (by simp [hrs])
  next => exact repeatsOne_of_off rfl

theorem InvCore.sequential (h : InvCore s) (hw : s.waiting = none) (hr : s.rpts ≠ .off → s.pend = none) :
    Inv (sequential s) := by
  refine (h.of_kept (.sequential s) ?_).inv (sequential_repeatsOne hr) (waitsLegally_of_none ?_)
  · rw [sequential_st]
    exact h.noOvm
  · rw [sequential_frame]
    exact hw

/-! ### An instruction -/

theorem WaitStart.waitsLegally {w : Waiting} (h : WaitStart i s l w) (hl : u.lines = l) (hpend : u.pend = s.pend)
    (hrpts : u.rpts = s.rpts) : ({ u with waiting := some w } : State).waitsLegally = true := by
  have hxf0 : u.xf0 = l.xf0 := congrArg Lines.xf0 hl
  cases h with
  | ldfi | ldii | store => simp [State.waitsLegally, hxf0, Lines.driveXf0]
  | sigi hi hc => simp [State.waitsLegally, hxf0, Lines.driveXf0, hpend, hrpts, hc]

theorem exec_inv (h : Inv s) (hw : s.waiting = none) (he : exec i s = .next t) : Inv t := by
  obtain ⟨u, work, hlines, hends⟩ := exec_done he
  have huw : u.waiting = none := work.waiting.elim (fun hu => hu.trans hw) id
  have hack : u.lines.iack = true := hlines.iack_eq.elim (fun hu => hu.trans h.ackHigh) And.right
  have hcore (hovm : u.st.ovm = false) : InvCore u := h.core.work work hovm hack (hlines.locks h.locks)
  cases hends with
  | completes hst =>
    refine (hcore (hst.ovm h.noOvm)).sequential huw fun hr => ?_
    rw [work.pend]
    exact h.pend_of_rpts (work.rpts ▸ hr)
  | waits w hws hst hre =>
    have hovm : u.st.ovm = false := hst ▸ h.noOvm
    refine ((hcore hovm).of_kept (Ends.waits w hws hst hre).kept hovm).inv ?_ (hws.waitsLegally rfl work.pend work.rpts)
    have hrepeats := h.repeats
    simp only [State.repeatsOne] at hrepeats ⊢
    rwa [work.rpts, work.pend, hst, work.pc, hre]
  | idles w hi hc hgie hst =>
    have hovm : u.st.ovm = false := hst ▸ h.noOvm
    refine ((hcore hovm).of_kept (Ends.idles w hi hc hgie hst).kept hovm).inv
      (repeatsOne_of_off (work.rpts.trans hc.2)) ?_
    have hpend := work.pend.trans hc.1
    have hrpts := work.rpts.trans hc.2
    rcases hi with ⟨-, rfl⟩ | ⟨-, rfl⟩ <;> simp [State.waitsLegally, hpend, hrpts, hst, hgie]
  | transfers a q ph st hc hk hst' ht =>
    have hovm : st.ovm = false := ht.status.2.1.trans h.noOvm
    refine ((hcore (hst' ▸ h.noOvm)).of_kept (Ends.transfers a q ph st hc hk hst' ht).kept hovm).inv ?_
      (waitsLegally_of_none huw)
    cases ht with
    | plain | trap | returns | block => exact repeatsOne_of_off rfl
    | single x hi hq ha => simp [State.repeatsOne, hq, ha]

end Sys2Proof.Machine
end

section
/-! The invariant through the inputs, the fetch, the waits and the interrupts of a step. -/
namespace Sys2Proof.Machine

variable {i : Instr} {s t u v : State} {w : Waiting} {a : Addr}

/-! ### Inputs and fetch -/

/-- Work that may change any register and any word. -/
abbrev AnyWork (s u : State) : Prop := Work (fun _ => True) (fun _ => True) s.lines s.st s u

theorem AnyWork.start (s : State) : AnyWork s s := Work.refl _ fun _ _ => trivial

/-- Work that changes no register. -/
theorem Inv.of_outsideWrites (h : Inv s) (ws : List (Addr × Word)) : Inv (outsideWrites ws s) := by
  obtain ⟨m, d, he, -⟩ := outsideWrites_frame ws s
  have core : InvCore (outsideWrites ws s) := h.core.quiet ((AnyWork.start s).outsideWrites fun _ _ => trivial)
  rw [he] at core ⊢
  exact core.inv h.repeats h.waits

theorem Inv.sampleInputs (h : Inv s) : Inv (sampleInputs s) := by
  unfold Machine.sampleInputs
  split
  · exact ⟨h.memory, h.noOvm, h.ackHigh, h.repeats, h.waits, h.fixed, h.locks⟩
  · refine Inv.of_outsideWrites ?_ _
    exact ⟨h.memory, h.noOvm, h.ackHigh, h.repeats, h.waits, h.fixed, h.locks⟩

theorem Inv.fetchWord (h : Inv s) (hf : fetchWord s = .ok u) : Inv u ∧ u.waiting = s.waiting := by
  obtain ⟨hstored, hf⟩ := need_bind_ok.mp hf
  obtain ⟨⟨x, s1⟩, hr, hf⟩ := bind_ok.mp hf
  cases hf
  obtain ⟨d, rfl⟩ := memRead_frame hr
  have hpc : s.pc.toNat ∉ s.stored := by simpa using hstored
  refine ⟨⟨h.memory, h.noOvm, h.ackHigh, h.repeats, h.waits, fun b hb => ?_, h.locks⟩, rfl⟩
  rcases mem_noteAddr.mp hb with rfl | hb
  · exact hpc
  · exact h.fixed b hb

theorem Inv.fetch (h : Inv s) (hf : fetch s = .ok u) : Inv u ∧ u.waiting = s.waiting := by
  unfold Machine.fetch at hf
  split at hf
  · cases hf
    exact ⟨h, rfl⟩
  next harmed =>
    obtain ⟨s1, hword, hu⟩ := bind_ok.mp hf
    cases hu
    obtain ⟨⟨hmem, hovm, hack, hrep, hwaits, hfix, hlocks⟩, hw⟩ := h.fetchWord hword
    have hphase : s1.rpts = .armed := by
      obtain ⟨-, hword⟩ := need_bind_ok.mp hword
      obtain ⟨⟨x, s2⟩, hr, hword⟩ := bind_ok.mp hword
      cases hword
      obtain ⟨d, rfl⟩ := memRead_frame hr
      exact harmed
    refine ⟨⟨hmem, hovm, hack, ?_, ?_, hfix, hlocks⟩, hw⟩
    · simpa [State.repeatsOne, hphase] using hrep
    · revert hwaits
      simp only [State.waitsLegally, hphase]
      split <;> simp
  next => exact h.fetchWord hf

/-! ### Interrupts -/

/-- The free bit changes the draw count alone. -/
theorem decideInterrupt_state (p : Option (Nat × VectorRef)) (s : State) :
    (decideInterrupt p s).2 = s ∨ (decideInterrupt p s).2 = s.tick := by
  unfold decideInterrupt
  split
  · exact .inl rfl
  · split
    · exact .inr rfl
    · exact .inr rfl

theorem decideInterrupt_some {p : Option (Nat × VectorRef)} {x : Nat × VectorRef} (h : decideInterrupt p s = (some x, u)) :
    p = some x ∧ u = s.tick := by
  unfold decideInterrupt at h
  split at h
  · cases h
  · split at h <;> cases h
    exact ⟨rfl, rfl⟩

theorem Inv.tick (h : Inv s) : Inv s.tick := ⟨h.memory, h.noOvm, h.ackHigh, h.repeats, h.waits, h.fixed, h.locks⟩

theorem Inv.decideInterrupt (h : Inv s) {p q : Option (Nat × VectorRef)} (hd : decideInterrupt p s = (q, u)) : Inv u := by
  obtain rfl : (Machine.decideInterrupt p s).2 = u := congrArg Prod.snd hd
  rcases decideInterrupt_state p s with he | he <;> rw [he]
  · exact h
  · exact h.tick

/-- Interrupt entry pushes, clears GIE and goes to the vector (R475). -/
theorem InvCore.enterInterrupt (h : InvCore s) (hoff : s.rpts = .off) (hw : s.waiting = none) {n : Nat} {vec : VectorRef}
    {ret : Addr} (he : enterInterrupt n vec ret s = .ok t) : Inv t := by
  obtain ⟨⟨target, s1⟩, hv, he⟩ := bind_ok.mp he
  obtain ⟨s2, henter, he⟩ := bind_ok.mp he
  obtain ⟨s3, hpush, henter⟩ := bind_ok.mp henter
  cases henter
  cases he
  obtain ⟨d, rfl⟩ := vectorAddress_frame hv
  have start : InvCore { s with draws := d } := ⟨h.memory, h.noOvm, h.ackHigh, h.fixed, h.locks⟩
  have work := (AnyWork.start { s with draws := d }).push hpush trivial trivial
  have core := start.quiet work
  have hoff' : s3.rpts = .off := work.rpts.trans hoff
  have hw' : s3.waiting = none := work.waiting.elim (fun he => he.trans hw) id
  refine InvCore.inv ⟨core.memory, core.noOvm, core.ackHigh, core.fixed, core.locks⟩ ?_ (waitsLegally_of_none hw')
  exact repeatsOne_of_off hoff'

/-! ### Waits -/

theorem InvCore.stopWaiting (h : InvCore s) : InvCore { s with waiting := none } :=
  ⟨h.memory, h.noOvm, h.ackHigh, h.fixed, h.locks⟩

/-- What finishes a waiting load is work that keeps OVM clear. -/
def Finishes (finish : State → Res State) : Prop :=
  ∀ s u, finish s = .ok u → ∃ st, Work (fun _ => True) (fun _ => True) s.lines st s u ∧ (s.st.ovm = false → st.ovm = false)

theorem finishes_ldfi (a : Addr) (n : Rn) : Finishes (finishLdfi a n) := by
  intro s u h
  obtain ⟨⟨x, s1⟩, hr, h⟩ := bind_ok.mp h
  cases h
  have hw : Writes (.ldfi (.dir 0) n) .loadFlt (.r n) := .of_single rfl rfl
  obtain ⟨st, hwork, hst⟩ := ((AnyWork.start s).memRead hr).putFlt ⟨widen x, false, false⟩ hw trivial
  exact ⟨st, hwork, hst.ovm⟩

theorem finishes_ldii (a : Addr) (r : Reg) : Finishes (finishLdii a r) := by
  intro s u h
  obtain ⟨⟨x, s1⟩, hr, h⟩ := bind_ok.mp h
  have hw : Writes (.ldii (.dir 0) r) .loadInt r := .of_single rfl rfl
  obtain ⟨st, hwork, hst⟩ := ((AnyWork.start s).memRead hr).putInt h hw trivial
  exact ⟨st, hwork, hst.ovm⟩

theorem InvCore.finish (h : InvCore s) {finish : State → Res State} (hf : Finishes finish) (he : finish s = .ok u) :
    InvCore u ∧ u.waiting ∈ [s.waiting, none] ∧ u.pend = s.pend ∧ u.rpts = s.rpts := by
  obtain ⟨st, work, hovm⟩ := hf s u he
  exact ⟨h.work work (hovm h.noOvm) h.ackHigh h.locks, by simpa using work.waiting, work.pend, work.rpts⟩

theorem Inv.resumeLoad (h : Inv s) (hxf0 : s.xf0 = false) {finish : State → Res State} (hf : Finishes finish)
    (he : resumeLoad a finish s = .ok t) : Inv t := by
  unfold Machine.resumeLoad at he
  split at he
  · split at he
    · split at he
      next s1 hd =>
        cases he
        exact h.decideInterrupt hd
      next n vec s1 hd =>
        obtain ⟨s2, hfinish, he⟩ := bind_ok.mp he
        have h1 := h.decideInterrupt hd
        obtain ⟨hcore, hw, hpend, hrpts⟩ := h1.core.stopWaiting.finish hf hfinish
        have hw : s2.waiting = none := by simpa using hw
        have hseq : Inv (sequential s2) := by
          refine hcore.sequential hw fun hr => ?_
          rw [hpend]
          rw [hrpts] at hr
          exact h1.pend_of_rpts hr
        refine InvCore.enterInterrupt (s := { sequential s2 with rpts := .off }) ?_ rfl ?_ he
        · exact ⟨hseq.memory, hseq.noOvm, hseq.ackHigh, hseq.fixed, hseq.locks⟩
        · rw [sequential_frame]
          exact hw
    · obtain ⟨s1, hfinish, he⟩ := bind_ok.mp he
      cases he
      have start : InvCore ({ s with waiting := none } : State).acquire :=
        ⟨h.memory, h.noOvm, h.ackHigh, h.fixed, fun _ => hxf0⟩
      obtain ⟨hcore, hw, hpend, hrpts⟩ := start.finish hf hfinish
      refine hcore.sequential (by simpa using hw) fun hr => ?_
      rw [hpend]
      rw [hrpts] at hr
      exact h.pend_of_rpts hr
  · cases he
    exact h

theorem sequential_off (h : s.rpts = .off) : (sequential s).rpts = .off := by
  unfold sequential
  split
  · split
    · rfl
    · simp [h]
  · rfl

theorem Inv.resumeIdle (h : Inv s) (he : resumeIdle s = .ok t) : Inv t := by
  unfold Machine.resumeIdle at he
  split at he
  next s1 hd =>
    cases he
    exact h.decideInterrupt hd
  next n vec s1 hd =>
    obtain ⟨htake, rfl⟩ := decideInterrupt_some hd
    obtain ⟨-, hpend, hoff, -⟩ := takeable_some htake
    have hseq : Inv (sequential { s.tick with pc := s.tick.pc - 1, waiting := none }) :=
      InvCore.sequential ⟨h.memory, h.noOvm, h.ackHigh, h.fixed, h.locks⟩ rfl fun hr => absurd hoff hr
    refine hseq.core.enterInterrupt ?_ ?_ he
    · exact sequential_off hoff
    · rw [sequential_frame]

theorem Inv.awaitSigi (h : Inv s) (hw : s.waiting = some .sigi) (he : awaitSigi s = .ok t) : Inv t := by
  have hlegal := h.waits
  simp only [State.waitsLegally, hw, Bool.and_eq_true, Option.isNone_iff_eq_none, beq_iff_eq] at hlegal
  obtain ⟨⟨hpend, hoff⟩, hxf0⟩ := hlegal
  unfold Machine.awaitSigi at he
  split at he
  · split at he
    · cases he
    · cases he
      rw [← hw]
      exact h
  · cases he
    refine InvCore.sequential ?_ rfl fun _ => hpend
    exact ⟨h.memory, h.noOvm, h.ackHigh, h.fixed, fun hl => by cases hl⟩

theorem Inv.resume (h : Inv s) (hw : s.waiting = some w) (he : resume w s = .ok t) : Inv t := by
  have hlegal := h.waits
  rw [State.waitsLegally, hw] at hlegal
  cases w with
  | ldfi a n => exact h.resumeLoad (by simpa using hlegal) (finishes_ldfi a n) he
  | ldii a r => exact h.resumeLoad (by simpa using hlegal) (finishes_ldii a r) he
  | store a x =>
    simp only [Machine.resume] at he
    split at he
    · obtain ⟨s1, hm, he⟩ := bind_ok.mp he
      cases he
      have work := (AnyWork.start { s with waiting := none }).memWrite hm trivial
      have hw1 : s1.waiting = none := work.waiting.elim id id
      refine (h.core.stopWaiting.quiet work).sequential hw1 fun hr => ?_
      rw [work.pend]
      exact h.pend_of_rpts (work.rpts ▸ hr)
    · cases he
      exact h
  | sigi => exact h.awaitSigi hw he
  | idle | idle2 => exact h.resumeIdle he

/-! ### The step -/

/-- Settles O8: the inputs, the fetch, the instruction, the wait and the interrupt entry each keep the invariant. -/
theorem everyStepKeepsTheInvariant : Obligations.EveryStepKeepsTheInvariant := by
  unfold Obligations.EveryStepKeepsTheInvariant
  intro s t hinv hstep
  have h := hinv.sampleInputs
  rw [step, advance] at hstep
  generalize sampleInputs s = s0 at h hstep
  split at hstep
  next w hw => exact h.resume hw (toOutcome_next.mp hstep)
  next hw =>
    unfold runNext at hstep
    split at hstep
    next n vec s1 hd =>
      obtain ⟨htake, rfl⟩ := decideInterrupt_some hd
      obtain ⟨-, -, hoff, -⟩ := takeable_some htake
      exact h.tick.core.enterInterrupt hoff hw (toOutcome_next.mp hstep)
    next s1 hd =>
      have h1 := h.decideInterrupt hd
      have hw1 : s1.waiting = none := by
        obtain rfl : (decideInterrupt s0.takeable s0).2 = s1 := congrArg Prod.snd hd
        rcases decideInterrupt_state s0.takeable s0 with he | he <;> rw [he] <;> exact hw
      unfold fetchExec at hstep
      split at hstep
      · cases hstep
      · split at hstep
        · cases hstep
        next s2 hf =>
          obtain ⟨h2, hw2⟩ := h1.fetch hf
          unfold execWord at hstep
          split at hstep
          · cases hstep
          · exact exec_inv h2 (hw2.trans hw1) hstep

end Sys2Proof.Machine
end

section
/-! What a whole step leaves as it was: the program, the parameters, IE, IF, IOF, and the sources but for a pending bit. -/
namespace Sys2Proof.Machine

variable {s t u v : State} {l : Lines} {st : Status} {may : Reg → Prop} {addr : Addr → Prop}

/-! ### The relation and its rules -/

/-- The sources t differ from s at most in pending bits that are cleared (R476). -/
def OnlyCleared (s t : List Source) : Prop :=
  ∀ k : Nat, (∀ x, s[k]? = some x → ∃ y, t[k]? = some y ∧ y.vector = x.vector ∧ y.enabled = x.enabled ∧
    (y.pending = true → x.pending = true)) ∧ (s[k]? = none → t[k]? = none)

theorem OnlyCleared.refl (s : List Source) : OnlyCleared s s := fun _ => ⟨fun x hx => ⟨x, hx, rfl, rfl, id⟩, id⟩

theorem OnlyCleared.trans {a b c : List Source} (h : OnlyCleared a b) (h' : OnlyCleared b c) : OnlyCleared a c := by
  refine fun k => ⟨fun x hx => ?_, fun hn => (h' k).2 ((h k).2 hn)⟩
  obtain ⟨y, hy, hvec, hen, hpend⟩ := (h k).1 x hx
  obtain ⟨z, hz, hvec', hen', hpend'⟩ := (h' k).1 y hy
  exact ⟨z, hz, hvec'.trans hvec, hen'.trans hen, hpend ∘ hpend'⟩

theorem onlyCleared_setSource (n : Nat) (l : List Source) :
    OnlyCleared l (setSource (fun x => { x with pending := false }) n l) := by
  intro k
  rw [getElem?_setSource]
  split
  · exact ⟨fun x hx => ⟨{ x with pending := false }, by simp [hx], rfl, rfl, fun h => by cases h⟩,
      fun hn => by simp [hn]⟩
  · exact OnlyCleared.refl l k

/-- From s to t no word of the program and no parameter has changed, nor IE, IF or IOF, and sources have at most lost
pending bits. -/
structure Keeps (s t : State) : Prop where
  program : ∀ a : Addr, s.inProgram a = true → t.mem.read a.toNat = s.mem.read a.toNat ∧ t.inProgram a = true
  params : t.params = s.params
  unnamed : t.ie = s.ie ∧ t.ifr = s.ifr ∧ t.iof = s.iof
  sources : OnlyCleared s.sources t.sources

theorem Keeps.trans (h : Keeps s t) (h' : Keeps t u) : Keeps s u where
  program := fun a ha => by
    obtain ⟨hmem, hprog⟩ := h.program a ha
    obtain ⟨hmem', hprog'⟩ := h'.program a hprog
    exact ⟨hmem'.trans hmem, hprog'⟩
  params := h'.params.trans h.params
  unnamed := ⟨h'.unnamed.1.trans h.unnamed.1, h'.unnamed.2.1.trans h.unnamed.2.1, h'.unnamed.2.2.trans h.unnamed.2.2⟩
  sources := h.sources.trans h'.sources

/-- States with the same memory, program, parameters, unnamed registers and sources. -/
theorem Keeps.of_eq (hmem : t.mem = s.mem) (hran : t.ran = s.ran) (hparams : t.params = s.params)
    (hunnamed : t.ie = s.ie ∧ t.ifr = s.ifr ∧ t.iof = s.iof) (hsources : t.sources = s.sources) : Keeps s t where
  program := fun a ha => ⟨by rw [hmem], by rw [State.inProgram, hran, hparams]; exact ha⟩
  params := hparams
  unnamed := hunnamed
  sources := hsources ▸ .refl _

theorem Keeps.refl (s : State) : Keeps s s := .of_eq rfl rfl rfl ⟨rfl, rfl, rfl⟩ rfl

theorem Work.keeps (h : Work may addr l st s u) : Keeps s u where
  program := fun a ha => ⟨h.program a ha, (h.inProgram a).trans ha⟩
  params := h.params
  unnamed := ⟨h.field State.ie, h.field State.ifr, h.field State.iof⟩
  sources := h.sources ▸ .refl _

theorem KeptByEnd.keeps (h : KeptByEnd u t) : Keeps u t := by
  obtain ⟨-, -, -, -, -, hparams, hsources, hran, hunnamed⟩ := h.fixed
  exact .of_eq h.mem hran hparams hunnamed hsources

/-! ### Through a step -/

theorem exec_keeps {i : Instr} (h : exec i s = .next t) : Keeps s t ∧ t.sources = s.sources := by
  obtain ⟨u, work, -, hends⟩ := exec_done h
  have hsources := hends.kept.fixed
  exact ⟨work.keeps.trans hends.kept.keeps, hsources.2.2.2.2.2.2.1.trans work.sources⟩

/-- The fetch adds an address to the program (R75; log 12). -/
theorem fetchWord_keeps (h : fetchWord s = .ok u) : Keeps s u ∧ u.sources = s.sources := by
  obtain ⟨-, h⟩ := need_bind_ok.mp h
  obtain ⟨⟨x, s1⟩, hr, h⟩ := bind_ok.mp h
  cases h
  obtain ⟨d, rfl⟩ := memRead_frame hr
  refine ⟨⟨fun a ha => ⟨rfl, ?_⟩, rfl, ⟨rfl, rfl, rfl⟩, .refl _⟩, rfl⟩
  simp only [State.inProgram, Bool.or_eq_true, List.contains_iff_mem, mem_noteAddr] at ha ⊢
  exact ha.imp_left .inr

theorem fetch_keeps (h : fetch s = .ok u) : Keeps s u ∧ u.sources = s.sources := by
  unfold fetch at h
  split at h
  · cases h
    exact ⟨.refl s, rfl⟩
  · obtain ⟨s1, hword, h⟩ := bind_ok.mp h
    cases h
    obtain ⟨hk, hsources⟩ := fetchWord_keeps hword
    exact ⟨hk.trans (.of_eq rfl rfl rfl ⟨rfl, rfl, rfl⟩ rfl), hsources⟩
  · exact fetchWord_keeps h

theorem fetchExec_keeps (h : fetchExec s = .next t) : Keeps s t ∧ t.sources = s.sources := by
  unfold fetchExec at h
  split at h
  · cases h
  · split at h
    · cases h
    next s1 hf =>
      obtain ⟨hk, hsources⟩ := fetch_keeps hf
      unfold execWord at h
      split at h
      · cases h
      · obtain ⟨hk', hsources'⟩ := exec_keeps h
        exact ⟨hk.trans hk', hsources'.trans hsources⟩

theorem decideInterrupt_keeps {p q : Option (Nat × VectorRef)} (h : decideInterrupt p s = (q, u)) : Keeps s u := by
  obtain rfl : (decideInterrupt p s).2 = u := congrArg Prod.snd h
  rcases decideInterrupt_state p s with he | he <;> rw [he]
  · exact .refl s
  · exact .of_eq rfl rfl rfl ⟨rfl, rfl, rfl⟩ rfl

theorem enterInterrupt_keeps {n : Nat} {vec : VectorRef} {ret : Addr} (h : enterInterrupt n vec ret s = .ok t) :
    Keeps s t := by
  obtain ⟨⟨target, s1⟩, hv, h⟩ := bind_ok.mp h
  obtain ⟨s2, henter, h⟩ := bind_ok.mp h
  obtain ⟨s3, hpush, henter⟩ := bind_ok.mp henter
  cases henter
  cases h
  obtain ⟨d, rfl⟩ := vectorAddress_frame hv
  have start : Keeps s { s with draws := d } := .of_eq rfl rfl rfl ⟨rfl, rfl, rfl⟩ rfl
  have hpushed := ((AnyWork.start { s with draws := d }).push hpush trivial trivial).keeps
  have hentered : Keeps s3 (jump target (s3.setSt { s3.st with gie := false })) :=
    .of_eq rfl rfl rfl ⟨rfl, rfl, rfl⟩ rfl
  refine (start.trans (hpushed.trans hentered)).trans ⟨fun a ha => ⟨rfl, ha⟩, rfl, ⟨rfl, rfl, rfl⟩, ?_⟩
  exact onlyCleared_setSource n _

theorem Finishes.keeps {finish : State → Res State} (hf : Finishes finish) (h : finish s = .ok u) : Keeps s u := by
  obtain ⟨st, work, -⟩ := hf s u h
  exact work.keeps

theorem stopWaiting_keeps (s : State) : Keeps s { s with waiting := none } := .of_eq rfl rfl rfl ⟨rfl, rfl, rfl⟩ rfl

theorem resumeLoad_keeps {a : Addr} {finish : State → Res State} (hf : Finishes finish)
    (h : resumeLoad a finish s = .ok t) : Keeps s t := by
  unfold resumeLoad at h
  split at h
  · split at h
    · split at h
      next s1 hd =>
        cases h
        exact decideInterrupt_keeps hd
      next n vec s1 hd =>
        obtain ⟨s2, hfinish, h⟩ := bind_ok.mp h
        have hdone := ((decideInterrupt_keeps hd).trans (stopWaiting_keeps s1)).trans (hf.keeps hfinish)
        have hend : Keeps s2 { sequential s2 with rpts := .off } :=
          (KeptByEnd.sequential s2).keeps.trans (.of_eq rfl rfl rfl ⟨rfl, rfl, rfl⟩ rfl)
        exact (hdone.trans hend).trans (enterInterrupt_keeps h)
    · obtain ⟨s1, hfinish, h⟩ := bind_ok.mp h
      cases h
      have hacquired : Keeps s ({ s with waiting := none } : State).acquire := .of_eq rfl rfl rfl ⟨rfl, rfl, rfl⟩ rfl
      exact (hacquired.trans (hf.keeps hfinish)).trans (KeptByEnd.sequential s1).keeps
  · cases h
    exact .refl s

theorem resumeIdle_keeps (h : resumeIdle s = .ok t) : Keeps s t := by
  unfold resumeIdle at h
  split at h
  next s1 hd =>
    cases h
    exact decideInterrupt_keeps hd
  next n vec s1 hd =>
    have hback : Keeps s1 { s1 with pc := s.pc - 1, waiting := none } := .of_eq rfl rfl rfl ⟨rfl, rfl, rfl⟩ rfl
    exact (((decideInterrupt_keeps hd).trans hback).trans (KeptByEnd.sequential _).keeps).trans (enterInterrupt_keeps h)

theorem awaitSigi_keeps (h : awaitSigi s = .ok t) : Keeps s t := by
  unfold awaitSigi at h
  split at h
  · split at h
    · cases h
    · cases h
      exact .of_eq rfl rfl rfl ⟨rfl, rfl, rfl⟩ rfl
  · cases h
    have hdriven : Keeps s { s.driveXf0 true with waiting := none } := .of_eq rfl rfl rfl ⟨rfl, rfl, rfl⟩ rfl
    exact hdriven.trans (KeptByEnd.sequential _).keeps

theorem resume_keeps {w : Waiting} (h : resume w s = .ok t) : Keeps s t := by
  cases w with
  | ldfi a n => exact resumeLoad_keeps (finishes_ldfi a n) h
  | ldii a r => exact resumeLoad_keeps (finishes_ldii a r) h
  | store a x =>
    simp only [resume] at h
    split at h
    · obtain ⟨s1, hm, h⟩ := bind_ok.mp h
      cases h
      have hstored := ((AnyWork.start { s with waiting := none }).memWrite hm trivial).keeps
      exact ((stopWaiting_keeps s).trans hstored).trans (KeptByEnd.sequential s1).keeps
    · cases h
      exact .refl s
  | sigi => exact awaitSigi_keeps h
  | idle | idle2 => exact resumeIdle_keeps h

theorem advance_keeps (h : advance s = .next t) : Keeps s t := by
  unfold advance at h
  split at h
  · exact resume_keeps (toOutcome_next.mp h)
  · unfold runNext at h
    split at h
    next n vec s1 hd => exact (decideInterrupt_keeps hd).trans (enterInterrupt_keeps (toOutcome_next.mp h))
    next s1 hd => exact (decideInterrupt_keeps hd).trans (fetchExec_keeps h).1

/-! ### Inputs and other agents -/

/-- Inputs and other agents change no register, nothing that decides where to go on, and no word that an agent may not
write. -/
structure KeptByOthers (s t : State) : Prop where
  contents : ∀ r, t.contents r = s.contents r
  control : t.pc = s.pc ∧ t.st = s.st ∧ t.waiting = s.waiting ∧ t.pend = s.pend ∧ t.lock = s.lock
  fixed : t.params = s.params ∧ t.ran = s.ran ∧ t.ie = s.ie ∧ t.ifr = s.ifr ∧ t.iof = s.iof
  mem : ∀ a : Addr, s.agentMay a = false → t.mem.read a.toNat = s.mem.read a.toNat

theorem keptByOthers_outsideWrites (ws : List (Addr × Word)) (s : State) : KeptByOthers s (outsideWrites ws s) := by
  obtain ⟨m, d, he, -, hmem, -⟩ := outsideWrites_frame ws s
  rw [he]
  exact ⟨fun r => by cases r <;> rfl, ⟨rfl, rfl, rfl, rfl, rfl⟩, ⟨rfl, rfl, rfl, rfl, rfl⟩, hmem⟩

theorem keptByOthers_agentsAct (s : State) : KeptByOthers s (agentsAct s) := by
  obtain ⟨hcontents, hcontrol, hfixed, hmem⟩ := keptByOthers_outsideWrites s.between { s with between := [] }
  exact ⟨fun r => (hcontents r).trans (by cases r <;> rfl), hcontrol, hfixed, hmem⟩

theorem keptByOthers_sampleInputs (s : State) : KeptByOthers s (sampleInputs s) := by
  unfold sampleInputs
  split
  · exact ⟨fun r => by cases r <;> rfl, ⟨rfl, rfl, rfl, rfl, rfl⟩, ⟨rfl, rfl, rfl, rfl, rfl⟩, fun _ _ => rfl⟩
  next e rest _ =>
    obtain ⟨hcontents, hcontrol, hfixed, hmem⟩ := keptByOthers_outsideWrites e.writes
      { s with
        env := rest, xf1 := e.xf1, rdyInt := e.rdyInt, xrdyInt := e.xrdyInt, between := e.between,
        sources := e.onSources s.sources }
    exact ⟨fun r => (hcontents r).trans (by cases r <;> rfl), hcontrol, hfixed, hmem⟩

theorem agentMay_of_private {a : Addr} (h : s.kindAt a = .internalRam ∨ s.inProgram a = true ∨ s.locked a = true) :
    s.agentMay a = false := by
  rcases h with h | h
  · exact agentMay_false.mpr (.inl (by simp [State.shared, h]))
  · exact agentMay_false.mpr (.inr h)

theorem covers_iff {l : List Extent} {a : Addr} :
    covers l a = true ↔ ∃ e ∈ l, e.base ≤ a.toNat ∧ a.toNat < e.base + e.size := by
  simp [covers]

/-- Settles O9: the inputs and then the advance of a step, each with what it keeps. -/
theorem whatNoStepChanges : Obligations.WhatNoStepChanges := by
  unfold Obligations.WhatNoStepChanges
  refine ⟨fun a v s hk hp => ?_, fun s t a h ha => ?_, fun s h => fetch_of_looping h, fun s t h => ?_,
    fun s t h => ?_, fun s a => ?_, fun a => ⟨⟨0, 0x1000000⟩, List.mem_cons_self, Nat.zero_le _, a.isLt⟩⟩
  · unfold memWrite
    split
    · contradiction
    all_goals simp [hp, refuse]
  · have hin := keptByOthers_sampleInputs s
    obtain ⟨hparams, hran, -⟩ := hin.fixed
    have ha0 : (sampleInputs s).inProgram a = true := by
      rw [State.inProgram, hparams, hran]
      exact ha
    obtain ⟨hmem, hprog⟩ := (advance_keeps h).program a ha0
    exact ⟨hmem.trans (hin.mem a (agentMay_of_private (.inr (.inl ha)))), hprog⟩
  · have hin := (keptByOthers_sampleInputs s).fixed
    have hk := advance_keeps h
    refine ⟨hk.params.trans hin.1, hk.unnamed.1.trans hin.2.2.1, hk.unnamed.2.1.trans hin.2.2.2.1,
      hk.unnamed.2.2.trans hin.2.2.2.2, hk.sources, fun hw ht => ?_⟩
    rw [step_eq_fetchExec hw ht] at h
    exact (fetchExec_keeps h).2
  · have hkept : KeptByOthers s t := by
      rcases h with rfl | rfl
      · exact keptByOthers_sampleInputs s
      · exact keptByOthers_agentsAct s
    obtain ⟨hpc, hst, hw, hpend, hlock⟩ := hkept.control
    exact ⟨hkept.contents, hpc, hst, hw, hpend, hlock, fun a ha => hkept.mem a (agentMay_of_private ha)⟩
  · rw [State.locked, Bool.and_eq_true, covers_iff]

end Sys2Proof.Machine
end

section
/-! The operands that every instruction refuses: one auxiliary register used twice, unnamed registers, OVM set. -/
namespace Sys2Proof.Machine

variable {i : Instr} {s t : State} {k : FlagClass} {a b : Indirect}

/-! ### One auxiliary register in two operands -/

theorem guardPair_refused (h : clash a b = true) : guardPair a b = refuse .auxUsedTwice := by
  simp [guardPair, h]

theorem guardDest_refused {c : Bool} (h : c = true) : guardDest c = refuse .auxAlsoDestination := by
  simp [guardDest, h]

theorem memIndirects_length (m : MemOp) : (memIndirects m).length < 2 := by cases m <;> simp [memIndirects]

theorem srcIndirects_length (x : Src) : (srcIndirects x).length < 2 := by
  cases x with
  | mem m => exact memIndirects_length m
  | reg | imm => exact Nat.zero_lt_two

theorem fsrcIndirects_length (x : FSrc) : (fsrcIndirects x).length < 2 := by
  cases x with
  | mem m => exact memIndirects_length m
  | reg | imm => exact Nat.zero_lt_two

/-- An operand with fewer than two indirect forms does not give a pair. -/
theorem not_pair {l : List Indirect} {P : Prop} (hl : l.length < 2) (h : l = [a, b]) : P := by
  rw [h] at hl
  simp at hl

theorem src3_pair {x y : Src3} (h : src3Indirects x ++ src3Indirects y = [a, b]) : x = .ind a ∧ y = .ind b := by
  cases x <;> cases y <;> simp_all [src3Indirects]

theorem fsrc3_pair {x y : FSrc3} (h : fsrc3Indirects x ++ fsrc3Indirects y = [a, b]) : x = .ind a ∧ y = .ind b := by
  cases x <;> cases y <;> simp_all [fsrc3Indirects]

theorem both3Int_refused {x y : Src3} (h : src3Indirects x ++ src3Indirects y = [a, b]) (hc : clash a b = true) (s : State) :
    both3Int x y s = refuse .auxUsedTwice := by
  obtain ⟨rfl, rfl⟩ := src3_pair h
  simp [both3Int, clash3, hc]

theorem both3Flt_refused {x y : FSrc3} (h : fsrc3Indirects x ++ fsrc3Indirects y = [a, b]) (hc : clash a b = true)
    (s : State) : both3Flt x y s = refuse .auxUsedTwice := by
  obtain ⟨rfl, rfl⟩ := fsrc3_pair h
  simp [both3Flt, fclash3, hc]

/-- A destination that an operand modifies is refused before two operands that clash. -/
theorem guardDest_then_refused {α : Type} (c : Bool) (f : Unit → Res α) (hf : f () = refuse .auxUsedTwice) :
    (guardDest c >>= f) = refuse .auxUsedTwice ∨ (guardDest c >>= f) = refuse .auxAlsoDestination := by
  cases c with
  | false => exact .inl hf
  | true => exact .inr rfl

theorem int3_refused {f : Word → Word → Bool → IntResult} {x y : Src3} {dst : Reg}
    (h : src3Indirects x ++ src3Indirects y = [a, b]) (hc : clash a b = true) :
    int3 k f x y dst s = refuse .auxUsedTwice ∨ int3 k f x y dst s = refuse .auxAlsoDestination :=
  guardDest_then_refused _ _ (by rw [both3Int_refused h hc]; rfl)

theorem pairStart_refused (h : clash a b = true) (s : State) : pairStart a b s = refuse .auxUsedTwice := by
  simp [pairStart, guardPair_refused h]

theorem loadPair_refused {p : LoadPair} (h : clash p.src2 p.src4 = true) (s : State) :
    loadPair p s = refuse .auxUsedTwice ∨ loadPair p s = refuse .sameLoadRegister := by
  by_cases hd : p.dst1 = p.dst2
  · exact .inr (by simp [loadPair, hd])
  · have hne : (p.dst1 != p.dst2) = true := by simpa using hd
    exact .inl (by simp [loadPair, hne, guardPair_refused h])

theorem guardMul_refused {p : MulPair} (h : pairIndirects p = [a, b]) (hc : clash a b = true) :
    guardMul p = refuse .auxUsedTwice := by
  simp only [guardMul, h, guardPair_refused hc]

theorem refused_of_eq {x : Res State} {r : Refusal} (h : x = refuse r) : toOutcome x = .refused r := by
  rw [h]
  rfl

/-- An instruction that starts with a refusal is refused so. -/
theorem toOutcome_bind_refused {α : Type} {x : Res α} {r : Refusal} (h : x = refuse r) (f : α → Res State) :
    toOutcome (x >>= f) = .refused r := by
  rw [h]
  rfl

theorem mulPairFlt_refused {p : MulPair} (h : pairIndirects p = [a, b]) (hc : clash a b = true) (s : State) :
    mulPairFlt p s = refuse .auxUsedTwice := by
  rw [mulPairFlt, guardMul_refused h hc]
  rfl

theorem mulPairInt_refused {p : MulPair} (h : pairIndirects p = [a, b]) (hc : clash a b = true) (s : State) :
    mulPairInt p s = refuse .auxUsedTwice := by
  rw [mulPairInt, guardMul_refused h hc]
  rfl

theorem exec_clash (h : indirects i = [a, b]) (hc : clash a b = true) (s : State) :
    exec i s = .refused .auxUsedTwice ∨ exec i s = .refused .auxAlsoDestination ∨ exec i s = .refused .sameLoadRegister := by
  cases i with
  | absi x _ | addc x _ | addi x _ | and x _ | andn x _ | ash x _ | cmpi x _ | ldi x _ | lsh x _ | mpyi x _ | negb x _
  | negi x _ | not x _ | or x _ | subb x _ | subc x _ | subi x _ | subrb x _ | subri x _ | tstb x _ | xor x _ | float x _
  | rpts x | ldicond _ x _ => exact not_pair (srcIndirects_length x) h
  | absf x _ | addf x _ | cmpf x _ | fix x _ | lde x _ | ldf x _ | ldm x _ | mpyf x _ | negf x _ | norm x _ | rnd x _
  | subf x _ | subrf x _ | ldfcond _ x _ => exact not_pair (fsrcIndirects_length x) h
  | stf _ m | sti _ m | ldfi m _ | ldii m _ | stfi _ m | stii _ m | iack m => exact not_pair (memIndirects_length m) h
  | nop x => cases x <;> cases h
  | pop | popf | push | pushf | ldp | sigi | rol | rolc | ror | rorc | idle | idle2 | maxspeed | lopower | br | brd | call
  | rptb | swi | bcond | bcondD | callcond | trapcond | reticond | retscond | dbcond | dbcondD => cases h
  | addc3 x y dst | addi3 x y dst | and3 x y dst | andn3 x y dst | ash3 x y dst | lsh3 x y dst | or3 x y dst
  | subb3 x y dst | subi3 x y dst | xor3 x y dst =>
    exact (int3_refused h hc).imp refused_of_eq fun he => .inl (refused_of_eq he)
  | mpyi3 x y dst =>
    refine (guardDest_then_refused _ _ ?_).imp refused_of_eq fun he => .inl (refused_of_eq he)
    rw [both3Int_refused h hc]
    rfl
  | cmpi3 x y | tstb3 x y => exact .inl (toOutcome_bind_refused (both3Int_refused h hc s) _)
  | addf3 x y dst | mpyf3 x y dst | subf3 x y dst =>
    exact .inl (toOutcome_bind_refused (both3Flt_refused h hc s) _)
  | cmpf3 x y => exact .inl (toOutcome_bind_refused (both3Flt_refused h hc s) _)
  | mpyf3Addf3 p | mpyf3Subf3 p =>
    exact .inl (toOutcome_bind_refused (mulPairFlt_refused h hc s) _)
  | mpyi3Addi3 p | mpyi3Subi3 p =>
    exact .inl (toOutcome_bind_refused (mulPairInt_refused h hc s) _)
  | stfStf p | stiSti p =>
    cases h
    exact .inl (toOutcome_bind_refused (guardPair_refused hc) _)
  | ldfLdf p | ldiLdi p =>
    cases h
    rcases loadPair_refused hc s with he | he
    · exact .inl (toOutcome_bind_refused he _)
    · exact .inr (.inr (toOutcome_bind_refused he _))
  | absfStf p | floatStf p | negfStf p =>
    cases h
    exact .inl (toOutcome_bind_refused (pairStart_refused hc s) _)
  | absiSti p | fixSti p | negiSti p | notSti p =>
    cases h
    exact .inl (toOutcome_bind_refused (pairStart_refused hc s) _)
  | addf3Stf p | mpyf3Stf p | subf3Stf p =>
    cases h
    exact .inl (toOutcome_bind_refused (pairStart_refused hc s) _)
  | addi3Sti p | and3Sti p | ash3Sti p | lsh3Sti p | or3Sti p | subi3Sti p | xor3Sti p =>
    cases h
    exact .inl (toOutcome_bind_refused (pairStart_refused hc s) _)
  | ldfStf p | ldiSti p | mpyi3Sti p =>
    cases h
    exact .inl (toOutcome_bind_refused (pairStart_refused hc s) _)

/-! ### An auxiliary register that is also the destination -/

theorem memClobbers_of_mem {m : MemOp} {n : ARn} (hx : a ∈ memIndirects m) (hc : clobbers a (.ar n) = true) :
    memClobbers m (.ar n) = true := by
  cases m with
  | dir k => cases hx
  | ind x => exact List.mem_singleton.mp hx ▸ hc

theorem srcClobbers_of_mem {x : Src} {n : ARn} (hx : a ∈ srcIndirects x) (hc : clobbers a (.ar n) = true) :
    srcClobbers x (.ar n) = true := by
  cases x with
  | mem m => exact memClobbers_of_mem hx hc
  | reg | imm => cases hx

theorem fsrcClobbers_of_mem {x : FSrc} {n : ARn} (hx : a ∈ fsrcIndirects x) (hc : clobbers a (.ar n) = true) :
    fsrcClobbers x (.ar n) = true := by
  cases x with
  | mem m => exact memClobbers_of_mem hx hc
  | reg | imm => cases hx

theorem src3Clobbers_of_mem {x : Src3} {n : ARn} (hx : a ∈ src3Indirects x) (hc : clobbers a (.ar n) = true) :
    src3Clobbers x (.ar n) = true := by
  cases x with
  | reg r => cases hx
  | ind y => exact List.mem_singleton.mp hx ▸ hc

theorem either3Clobbers_of_mem {x y : Src3} {n : ARn} (h : a ∈ src3Indirects x ++ src3Indirects y)
    (hc : clobbers a (.ar n) = true) : (src3Clobbers x (.ar n) || src3Clobbers y (.ar n)) = true := by
  rcases List.mem_append.mp h with h | h
  · simp [src3Clobbers_of_mem h hc]
  · simp [src3Clobbers_of_mem h hc]

/-- The instruction starts with the guard of its destination. -/
theorem toOutcome_guardDest {c : Bool} (h : c = true) (f : Unit → Res State) :
    toOutcome (guardDest c >>= f) = .refused .auxAlsoDestination := by
  rw [guardDest_refused h]
  rfl

theorem exec_auxAlsoDestination {n : ARn} (hx : a ∈ indirects i) (hc : clobbers a (.ar n) = true)
    (hd : .ar n ∈ destinations i) (s : State) : exec i s = .refused .auxAlsoDestination := by
  cases i with
  | absi x dst | addc x dst | addi x dst | and x dst | andn x dst | ash x dst | ldi x dst | lsh x dst | mpyi x dst
  | negb x dst | negi x dst | not x dst | or x dst | subb x dst | subc x dst | subi x dst | subrb x dst | subri x dst
  | xor x dst | ldicond c x dst =>
    obtain rfl := List.mem_singleton.mp hd
    exact toOutcome_guardDest (srcClobbers_of_mem hx hc) _
  | fix x dst =>
    obtain rfl := List.mem_singleton.mp hd
    exact toOutcome_guardDest (fsrcClobbers_of_mem hx hc) _
  | ldii m dst =>
    obtain rfl := List.mem_singleton.mp hd
    exact toOutcome_guardDest (memClobbers_of_mem hx hc) _
  | addc3 x y dst | addi3 x y dst | and3 x y dst | andn3 x y dst | ash3 x y dst | lsh3 x y dst | mpyi3 x y dst | or3 x y dst
  | subb3 x y dst | subi3 x y dst | xor3 x y dst =>
    obtain rfl := List.mem_singleton.mp hd
    exact toOutcome_guardDest (either3Clobbers_of_mem hx hc) _
  | rol | rolc | ror | rorc | pop | popf | push | pushf | call | callcond | trapcond | reticond | retscond | ldp | rptb
  | dbcond | dbcondD => cases hx
  | absf | addf | float | lde | ldf | ldm | mpyf | negf | norm | rnd | subf | subrf | ldfcond | ldfi | addf3 | mpyf3 | subf3
  | rpts | mpyf3Addf3 | mpyf3Subf3 | mpyi3Addi3 | mpyi3Subi3 | ldfLdf | ldiLdi | absfStf | absiSti | fixSti | floatStf
  | ldfStf | ldiSti | negfStf | negiSti | notSti | addf3Stf | addi3Sti | and3Sti | ash3Sti | lsh3Sti | mpyf3Stf | mpyi3Sti
  | or3Sti | subf3Stf | subi3Sti | xor3Sti | cmpi | tstb | cmpf | cmpi3 | tstb3 | cmpf3 | stf | sti | stfi | stii | sigi
  | idle | idle2 | nop | maxspeed | lopower | iack | br | brd | swi | bcond | bcondD | stfStf | stiSti =>
    simp [destinations] at hd

end Sys2Proof.Machine
end

section
/-! The operands that name IE, IF or IOF, the writes that would set OVM, and the statement on refused operands. -/
namespace Sys2Proof.Machine

variable {i : Instr} {s t : State} {k : FlagClass}

/-! ### Unnamed registers -/

theorem srcInt_named {e : ImmExt} {x : Src} {v : Word} {s1 : State} (h : srcInt e x s = .ok (v, s1)) :
    ∀ r ∈ srcRegs x, namedReg r = true := by
  cases x with
  | reg q =>
    intro r hr
    obtain rfl := List.mem_singleton.mp hr
    obtain ⟨d, hd, -⟩ := bind_ok.mp h
    exact readInt_named hd
  | mem | imm => exact fun r hr => absurd hr (List.not_mem_nil)

theorem src3Int_named {x : Src3} {s0 s1 : State} {v : Word} (h : src3Int s0 x s = .ok (v, s1)) :
    ∀ r ∈ src3Regs x, namedReg r = true := by
  cases x with
  | reg q =>
    intro r hr
    obtain rfl := List.mem_singleton.mp hr
    obtain ⟨d, hd, -⟩ := bind_ok.mp h
    exact readInt_named hd
  | ind => exact fun r hr => absurd hr (List.not_mem_nil)

theorem both3Int_named {x y : Src3} {v w : Word} {s1 : State} (h : both3Int x y s = .ok (v, w, s1)) :
    ∀ r ∈ src3Regs x ++ src3Regs y, namedReg r = true := by
  obtain ⟨-, h⟩ := need_bind_ok.mp h
  obtain ⟨⟨a, s2⟩, ha, h⟩ := bind_ok.mp h
  obtain ⟨⟨b, s3⟩, hb, -⟩ := bind_ok.mp h
  intro r hr
  rcases List.mem_append.mp hr with hr | hr
  · exact src3Int_named ha r hr
  · exact src3Int_named hb r hr

theorem target_named {n : Nat} {x : Csrc} {a : Addr} (h : target n x s = .ok a) : ∀ r ∈ csrcRegs x, namedReg r = true := by
  cases x with
  | reg q =>
    intro r hr
    obtain rfl := List.mem_singleton.mp hr
    obtain ⟨d, hd, -⟩ := target_reg.mp h
    exact readInt_named hd
  | disp => exact fun r hr => absurd hr (List.not_mem_nil)

/-- A destination that can be written, and operands that can be read. -/
theorem named_cons {dst : Reg} {l : List Reg} (hd : namedReg dst = true) (hl : ∀ r ∈ l, namedReg r = true) :
    ∀ r ∈ dst :: l, namedReg r = true := List.forall_mem_cons.mpr ⟨hd, hl⟩

theorem intOp_named {e : ImmExt} {f : Word → Word → Bool → IntResult} {x : Src} {dst : Reg}
    (h : intOp k e f x dst s = .ok t) : ∀ r ∈ dst :: srcRegs x, namedReg r = true := by
  obtain ⟨-, d, v, s1, u, hd, hv, -⟩ := intOp_ok.mp h
  exact named_cons (readInt_named hd) (srcInt_named hv)

theorem intUnary_named {e : ImmExt} {f : Word → Bool → IntResult} {x : Src} {dst : Reg}
    (h : intUnary k e f x dst s = .ok t) : ∀ r ∈ dst :: srcRegs x, namedReg r = true := by
  obtain ⟨-, v, s1, u, hv, hu, -⟩ := intUnary_ok.mp h
  exact named_cons (putInt_named hu) (srcInt_named hv)

theorem intTest_named {e : ImmExt} {f : Word → Word → IntResult} {x : Src} {dst : Reg}
    (h : intTest k e f x dst s = .ok t) : ∀ r ∈ dst :: srcRegs x, namedReg r = true := by
  obtain ⟨d, v, s1, hd, hv, -⟩ := intTest_ok.mp h
  exact named_cons (readInt_named hd) (srcInt_named hv)

theorem int3_named {f : Word → Word → Bool → IntResult} {x y : Src3} {dst : Reg} (h : int3 k f x y dst s = .ok t) :
    ∀ r ∈ dst :: (src3Regs x ++ src3Regs y), namedReg r = true := by
  obtain ⟨-, a, b, s1, u, hab, hu, -⟩ := int3_ok.mp h
  exact named_cons (putInt_named hu) (both3Int_named hab)

/-- A branch reads its target after the check of its place. -/
theorem target_bind_named {n : Nat} {x : Csrc} {f : Addr → Res State}
    (h : (guardControl s >>= fun _ => target n x s >>= f) = .ok t) : ∀ r ∈ csrcRegs x, namedReg r = true := by
  obtain ⟨-, h⟩ := guardControl_bind_ok.mp h
  obtain ⟨a, ha, -⟩ := bind_ok.mp h
  exact target_named ha

/-- An instruction that starts by reading a register. -/
theorem readInt_bind_named {q : Reg} {f : Word → Res State} (h : (readInt q s >>= f) = .ok t) :
    ∀ r ∈ [q], namedReg r = true := by
  obtain ⟨v, hv, -⟩ := bind_ok.mp h
  exact named_cons (readInt_named hv) fun r hr => absurd hr List.not_mem_nil

theorem exec_named (h : exec i s = .next t) : ∀ r ∈ operandRegs i, namedReg r = true := by
  cases i with
  | addc | addi | and | andn | ash | lsh | or | subb | subi | subrb | subri | xor => exact intOp_named (toOutcome_next.mp h)
  | absi | ldi | negb | negi | not => exact intUnary_named (toOutcome_next.mp h)
  | cmpi | tstb => exact intTest_named (toOutcome_next.mp h)
  | addc3 | addi3 | and3 | andn3 | ash3 | lsh3 | or3 | subb3 | subi3 | xor3 => exact int3_named (toOutcome_next.mp h)
  | cmpi3 | tstb3 =>
    obtain ⟨a, b, s1, hab, -⟩ := intTest3_ok.mp (toOutcome_next.mp h)
    exact both3Int_named hab
  | mpyi x dst | subc x dst =>
    obtain ⟨-, h⟩ := need_bind_ok.mp (toOutcome_next.mp h)
    obtain ⟨d, hd, h⟩ := bind_ok.mp h
    obtain ⟨⟨v, s1⟩, hv, -⟩ := bind_ok.mp h
    exact named_cons (readInt_named hd) (srcInt_named hv)
  | mpyi3 x y dst =>
    obtain ⟨-, h⟩ := need_bind_ok.mp (toOutcome_next.mp h)
    obtain ⟨⟨a, b, s1⟩, hab, h⟩ := bind_ok.mp h
    obtain ⟨u, hu, -⟩ := bind_ok.mp h
    exact named_cons (putInt_named hu) (both3Int_named hab)
  | ldicond c x dst =>
    obtain ⟨-, h⟩ := need_bind_ok.mp (toOutcome_next.mp h)
    obtain ⟨hd, h⟩ := need_bind_ok.mp h
    obtain ⟨⟨v, s1⟩, hv, -⟩ := bind_ok.mp h
    exact named_cons hd (srcInt_named hv)
  | float x n =>
    obtain ⟨⟨v, s1⟩, hv, -⟩ := bind_ok.mp (toOutcome_next.mp h)
    exact srcInt_named hv
  | rpts x =>
    obtain ⟨-, h⟩ := guardControl_bind_ok.mp (toOutcome_next.mp h)
    obtain ⟨-, h⟩ := need_bind_ok.mp h
    obtain ⟨⟨v, s1⟩, hv, -⟩ := bind_ok.mp h
    exact srcInt_named hv
  | fix x dst =>
    obtain ⟨-, h⟩ := need_bind_ok.mp (toOutcome_next.mp h)
    obtain ⟨⟨v, s1⟩, hv, h⟩ := bind_ok.mp h
    obtain ⟨u, hu, -⟩ := bind_ok.mp h
    exact named_cons (putInt_named hu) fun r hr => absurd hr List.not_mem_nil
  | ldii m dst =>
    obtain ⟨-, h⟩ := need_bind_ok.mp (toOutcome_next.mp h)
    obtain ⟨hd, -⟩ := need_bind_ok.mp h
    exact named_cons hd fun r hr => absurd hr List.not_mem_nil
  | pop dst =>
    obtain ⟨⟨v, s1⟩, hv, h⟩ := bind_ok.mp (toOutcome_next.mp h)
    obtain ⟨u, hu, -⟩ := bind_ok.mp h
    exact named_cons (putInt_named hu) fun r hr => absurd hr List.not_mem_nil
  | sti | stii | push | rol | rolc | ror | rorc => exact readInt_bind_named (toOutcome_next.mp h)
  | bcond | bcondD | callcond | dbcond | dbcondD => exact target_bind_named (toOutcome_next.mp h)
  | absf | addf | cmpf | lde | ldf | ldm | mpyf | negf | norm | rnd | subf | subrf | ldfcond | stf | ldfi | stfi | iack | nop
  | addf3 | cmpf3 | mpyf3 | subf3 | mpyf3Addf3 | mpyf3Subf3 | mpyi3Addi3 | mpyi3Subi3 | stfStf | stiSti | ldfLdf | ldiLdi
  | absfStf | absiSti | addf3Stf | addi3Sti | and3Sti | ash3Sti | fixSti | floatStf | ldfStf | ldiSti | lsh3Sti | mpyf3Stf
  | mpyi3Sti | negfStf | negiSti | notSti | or3Sti | subf3Stf | subi3Sti | xor3Sti | popf | pushf | ldp | sigi | idle | idle2
  | maxspeed | lopower | br | brd | call | rptb | swi | trapcond | reticond | retscond =>
    exact fun r hr => absurd hr List.not_mem_nil

/-- Nothing faults (R13), so what does not complete is refused. -/
theorem refused_of_not_next (h : ∀ t, exec i s ≠ .next t) : ∃ e, exec i s = .refused e := by
  cases he : exec i s with
  | next t => exact absurd he (h t)
  | fault f => exact nomatch f
  | refused e => exact ⟨e, rfl⟩

theorem readInt_unnamed {r : Reg} (h : namedReg r = false) (s : State) : readInt r s = refuse .unnamedRegister := by
  cases r with
  | ie | ifr | iof => rfl
  | r | ar | dp | ir0 | ir1 | bk | sp | st | rs | re | rc => cases h

/-! ### OVM -/

theorem writeInt_st_refused {v : Word} (h : v.getLsbD s.params.stLayout.ovm.val = true) :
    writeInt .st v s = refuse .overflowModeSet := by
  have hovm : (Status.ofWord s.params.stLayout v).ovm = true := h
  simp [writeInt, hovm]

theorem putInt_st_refused {r : IntResult} (h : r.value.getLsbD s.params.stLayout.ovm.val = true) :
    putInt k .st r s = refuse .overflowModeSet := (putInt_st k r s).trans (writeInt_st_refused h)

theorem srcInt_params {e : ImmExt} {x : Src} {v : Word} {s1 : State} (h : srcInt e x s = .ok (v, s1)) :
    s1.params = s.params := by
  obtain ⟨ar, d, rfl, -⟩ := srcInt_frame h
  rfl

theorem memRead_params {a : Addr} {v : Word} {s1 : State} (h : memRead a s = .ok (v, s1)) : s1.params = s.params := by
  obtain ⟨d, rfl⟩ := memRead_frame h
  rfl

@[simp] theorem srcClobbers_st (x : Src) : srcClobbers x .st = false := by
  cases x with
  | mem m => cases m <;> rfl
  | reg | imm => rfl

theorem intUnary_st_refused {e : ImmExt} {f : Word → Bool → IntResult} {x : Src} {v : Word} {s1 : State}
    (hv : srcInt e x s = .ok (v, s1)) (ho : (f v s.st.c).value.getLsbD s.params.stLayout.ovm.val = true) :
    intUnary k e f x .st s = refuse .overflowModeSet := by
  have hput : putInt k .st (f v s.st.c) s1 = refuse .overflowModeSet := putInt_st_refused (srcInt_params hv ▸ ho)
  simp [intUnary, guardDest, hv, hput]

theorem intOp_st_refused {e : ImmExt} {f : Word → Word → Bool → IntResult} {x : Src} {d v : Word} {s1 : State}
    (hd : readInt .st s = .ok d) (hv : srcInt e x s = .ok (v, s1))
    (ho : (f d v s.st.c).value.getLsbD s.params.stLayout.ovm.val = true) :
    intOp k e f x .st s = refuse .overflowModeSet := by
  have hput : putInt k .st (f d v s.st.c) s1 = refuse .overflowModeSet := putInt_st_refused (srcInt_params hv ▸ ho)
  simp [intOp, guardDest, hd, hv, hput]

theorem ldicond_st_refused {c : Cond} {x : Src} {v : Word} {s1 : State} (hv : srcInt .signed x s = .ok (v, s1))
    (ho : v.getLsbD s.params.stLayout.ovm.val = true) (hc : condTrue c s.st = true) :
    exec (.ldicond c x .st) s = .refused .overflowModeSet := by
  have hw : writeInt .st v s1 = refuse .overflowModeSet := writeInt_st_refused (srcInt_params hv ▸ ho)
  show toOutcome _ = _
  simp [guardDest, namedReg, hv, hc, hw]

theorem pop_st_refused {v : Word} {s1 : State} (hv : memRead (low24 s.sp) s = .ok (v, s1))
    (ho : v.getLsbD s.params.stLayout.ovm.val = true) : exec (.pop .st) s = .refused .overflowModeSet := by
  have hput : putInt .loadInt .st (plainResult v) (s1.setSp (s.sp - 1)) = refuse .overflowModeSet :=
    putInt_st_refused (memRead_params hv ▸ ho)
  have hpop : pop s = .ok (v, s1.setSp (s.sp - 1)) := pop_ok.mpr ⟨s1, hv, rfl⟩
  show toOutcome (pop s >>= _) = _
  rw [hpop]
  exact toOutcome_bind_refused hput _

/-- An instruction that completes leaves OVM 0 where it was 0. -/
theorem exec_noOvm (hs : s.st.ovm = false) (h : exec i s = .next t) : t.st.ovm = false := by
  obtain ⟨u, -, -, hends⟩ := exec_done h
  cases hends with
  | completes hst =>
    rw [sequential_st]
    exact hst.ovm hs
  | waits w _ hst _ => exact (congrArg Status.ovm hst).trans hs
  | idles w _ _ _ hst => exact (congrArg Status.ovm hst).trans hs
  | transfers a q ph st _ _ _ ht => exact ht.status.2.1.trans hs

/-- Settles O20: each form of operand is refused where the instruction's shape checks or reads it. -/
theorem refusedOperands : Obligations.RefusedOperands := by
  unfold Obligations.RefusedOperands
  refine ⟨fun i s x y => fun h hc => exec_clash h hc s, fun i s x n hx hc hd => exec_auxAlsoDestination hx hc hd s, ?_, ?_,
    ?_, ?_, fun s s1 v => pop_st_refused, ?_, ?_, fun i s t => exec_noOvm⟩
  · intro i s r hr hn
    refine refused_of_not_next fun t ht => ?_
    exact absurd (exec_named ht r hr) (by simp [hn])
  · intro s r hn
    have hread : ∀ f : Word → Res State, toOutcome (readInt r s >>= f) = .refused .unnamedRegister := fun f =>
      toOutcome_bind_refused (readInt_unnamed hn s) f
    refine ⟨hread _, hread _, fun dst => ?_⟩
    have hsrc : srcInt .signed (.reg r) s = refuse .unnamedRegister := by simp [srcInt, readInt_unnamed hn]
    show toOutcome _ = _
    simp [intUnary, guardDest, srcClobbers, hsrc]
  · intro s p hd
    have hload : loadPair p s = refuse .sameLoadRegister := by simp [loadPair, hd]
    exact ⟨toOutcome_bind_refused hload _, toOutcome_bind_refused hload _⟩
  · intro s s1 x v hv ho
    exact ⟨refused_of_eq (intUnary_st_refused hv ho), fun c hc => ldicond_st_refused hv ho hc⟩
  · intro s s1 x d v hd hv ho
    exact refused_of_eq (intOp_st_refused hd hv ho)
  · intro s v ho
    exact ⟨writeInt_st_refused ho, fun k c o => writeInt_st_refused ho⟩

end Sys2Proof.Machine
end

section
/-! What the model writes after a result, in the words of the statements: flags, integer writes and float results, and
the values of the integer operations. -/
namespace Sys2Proof.Machine

variable {i : Instr} {s s1 u : State} {k : FlagClass}

/-! ### Zero and sign of a float -/

theorem floatVal_eq_zero_iff {p : ℕ} {q e : ℤ} : floatVal p q e = 0 ↔ q = 0 := by
  rw [floatVal, mul_eq_zero, or_iff_left (two_zpow_pos _).ne', Int.cast_eq_zero]

theorem floatVal_lt_zero_iff {p : ℕ} {q e : ℤ} : floatVal p q e < 0 ↔ q < 0 := by
  rw [floatVal, ← not_le, mul_nonneg_iff_of_pos_right (two_zpow_pos _), Int.cast_nonneg_iff, not_le]

theorem mantInt_ne_zero (x : Ext) : mantInt x ≠ 0 := by
  have hnormal := normal_mantInt x
  unfold Normal at hnormal
  omega

theorem mantInt_lt_zero_iff (x : Ext) : mantInt x < 0 ↔ (mantField x).msb = true := by
  have hlt := (x.extractLsb' 0 31).isLt
  rw [mantInt_eq]
  split <;> simp_all <;> omega

theorem isZeroF_eq_decide (x : Ext) : isZeroF x = decide (valF x = 0) := by
  cases h : isZeroF x with
  | true => simp [valF_of_zero h]
  | false => simp [valF_of_not_zero h, floatVal_eq_zero_iff, mantInt_ne_zero]

theorem isNegF_eq_decide (x : Ext) : isNegF x = decide (valF x < 0) := by
  cases h : isZeroF x with
  | true => simp [isNegF, h, valF_of_zero h]
  | false => simp [isNegF, h, valF_of_not_zero h, floatVal_lt_zero_iff, mantInt_lt_zero_iff]

/-! ### Flags and results -/

theorem putFlags_integer (r : IntResult) (s : State) : putFlags k r.flags s = s.integerFlags k r.value r.c r.v := rfl

theorem putFlags_float (r : FltResult) (s : State) : putFlags k r.flags s = s.floatFlags k r.value r.v r.uf := by
  simp only [putFlags, FltResult.flags, isZeroF_eq_decide, isNegF_eq_decide]
  rfl

theorem putFlt_eq (n : Rn) (r : FltResult) (s : State) : putFlt k n r s = s.floatResult k n r.value r.v r.uf := by
  rw [putFlt, putFlags_float]
  rfl

theorem putInt_eq (dst : Reg) (r : IntResult) (s : State) : putInt k dst r s = s.integerWrite k dst r.value r.c r.v := by
  cases dst with
  | r n => rfl
  | st => exact putInt_st k r s
  | ie | ifr | iof => rfl
  | ar | dp | ir0 | ir1 | bk | sp | rs | re | rc =>
    simp only [putInt, State.integerWrite, writeInt, ok_bind, putFlagsFor, State.setAr_params, State.setSp_params]
    by_cases hal : (flagRow s.params.flagPolicy k).always = true
    · simp only [hal, ↓reduceIte]
      rfl
    · by_cases hc : (flagRow s.params.flagPolicy k).cAlways = true
      · simp only [hal, hc, ↓reduceIte, Bool.false_eq_true]
        rfl
      · simp only [hal, hc, ↓reduceIte, Bool.false_eq_true]

/-! ### The operations on words -/

theorem outOfRange_eq (x : Int) : outOfRange x = overflows x := by
  have hlo : decide (-2147483648 ≤ x) = !decide (x < -2 ^ 31) := by
    rw [← decide_not, decide_eq_decide]
    omega
  have hhi : decide (x ≤ 2147483647) = !decide (2 ^ 31 ≤ x) := by
    rw [← decide_not, decide_eq_decide]
    omega
  rw [outOfRange, overflows, hlo, hhi, Bool.not_and, Bool.not_not, Bool.not_not]

theorem addWords_carry (a b : Word) (c : Bool) :
    addWords a b c = ⟨a + b + BitVec.ofNat 32 c.toNat, some (decide (2 ^ 32 ≤ a.toNat + b.toNat + c.toNat)),
      overflows (a.toInt + b.toInt + c.toNat)⟩ := by
  have hvalue : BitVec.ofNat 32 (a.toNat + b.toNat + c.toNat) = a + b + BitVec.ofNat 32 c.toNat := by
    simp [BitVec.ofNat_add]
  rw [addWords, outOfRange_eq, hvalue]

theorem addWords_plain (a b : Word) :
    addWords a b false =
      ⟨a + b, some (decide (2 ^ 32 ≤ a.toNat + b.toNat)), overflows (a.toInt + b.toInt)⟩ := by
  simpa using addWords_carry a b false

theorem subWords_borrow (a b : Word) (c : Bool) :
    subWords a b c = ⟨a - b - BitVec.ofNat 32 c.toNat, some (decide (a.toNat < b.toNat + c.toNat)),
      overflows (a.toInt - b.toInt - c.toNat)⟩ := by
  have hvalue : BitVec.ofInt 32 (a.toNat - b.toNat - c.toNat) = a - b - BitVec.ofNat 32 c.toNat := by
    simp [Int.sub_eq_add_neg, BitVec.ofInt_add, BitVec.ofInt_neg, BitVec.sub_eq_add_neg]
  rw [subWords, outOfRange_eq, hvalue]

theorem subWords_plain (a b : Word) :
    subWords a b false = ⟨a - b, some (decide (a.toNat < b.toNat)), overflows (a.toInt - b.toInt)⟩ := by
  simpa using subWords_borrow a b false

end Sys2Proof.Machine
end

section
/-! The integer instructions complete: what each writes, with its flags. -/
namespace Sys2Proof.Machine

variable {i : Instr} {s s1 u : State} {k : FlagClass} {e : ImmExt} {src : Src} {dst : Reg} {d v x : Word}
  {c : Option Bool} {o : Bool} {r : IntResult}

/-! ### The shapes complete -/

theorem intOp_completes {f : Word → Word → Bool → IntResult} (hcl : srcClobbers src dst = false)
    (hd : readInt dst s = .ok d) (hv : srcInt e src s = .ok (v, s1)) (hf : f d v s.st.c = ⟨x, c, o⟩)
    (hu : s1.integerWrite k dst x c o = .ok u) : toOutcome (intOp k e f src dst s) = .next (sequential u) :=
  toOutcome_next.mpr (intOp_ok.mpr ⟨hcl, d, v, s1, u, hd, hv, by rw [hf, putInt_eq, hu], rfl⟩)

theorem intUnary_completes {f : Word → Bool → IntResult} (hcl : srcClobbers src dst = false)
    (hv : srcInt e src s = .ok (v, s1)) (hf : f v s.st.c = ⟨x, c, o⟩)
    (hu : s1.integerWrite k dst x c o = .ok u) : toOutcome (intUnary k e f src dst s) = .next (sequential u) :=
  toOutcome_next.mpr (intUnary_ok.mpr ⟨hcl, v, s1, u, hv, by rw [hf, putInt_eq, hu], rfl⟩)

theorem intTest_completes {f : Word → Word → IntResult} (hd : readInt dst s = .ok d) (hv : srcInt e src s = .ok (v, s1))
    (hf : f d v = ⟨x, c, o⟩) :
    toOutcome (intTest k e f src dst s) = .next (sequential (s1.integerFlags k x c o)) :=
  toOutcome_next.mpr (intTest_ok.mpr ⟨d, v, s1, hd, hv, by rw [hf, putFlags_integer]⟩)

theorem int3_completes {f : Word → Word → Bool → IntResult} {x₁ x₂ : Src3} {a b : Word} (hx : src3Clobbers x₁ dst = false)
    (hy : src3Clobbers x₂ dst = false) (hab : both3Int x₁ x₂ s = .ok (a, b, s1)) (hf : f a b s.st.c = ⟨x, c, o⟩)
    (hu : s1.integerWrite k dst x c o = .ok u) : toOutcome (int3 k f x₁ x₂ dst s) = .next (sequential u) :=
  toOutcome_next.mpr (int3_ok.mpr ⟨⟨hx, hy⟩, a, b, s1, u, hab, by rw [hf, putInt_eq, hu], rfl⟩)

theorem intTest3_completes {f : Word → Word → IntResult} {x₁ x₂ : Src3} {a b : Word}
    (hab : both3Int x₁ x₂ s = .ok (a, b, s1)) (hf : f a b = ⟨x, c, o⟩) :
    toOutcome (intTest3 k f x₁ x₂ s) = .next (sequential (s1.integerFlags k x c o)) :=
  toOutcome_next.mpr (intTest3_ok.mpr ⟨a, b, s1, hab, by rw [hf, putFlags_integer]⟩)

theorem rotate_completes {f : Word → Bool → IntResult} (hd : readInt dst s = .ok d) (hf : f d s.st.c = ⟨x, c, o⟩)
    (hu : s.integerWrite .rot dst x c o = .ok u) : toOutcome (rotate f dst s) = .next (sequential u) :=
  toOutcome_next.mpr (rotate_ok.mpr ⟨d, u, hd, by rw [hf, putInt_eq, hu], rfl⟩)

/-! ### Addition, subtraction, comparison and logic -/

/-- Settles O24: the shape of a two-operand instruction, with the sum, the difference and their flags. -/
theorem addAndSubtract : Obligations.AddAndSubtract := by
  unfold Obligations.AddAndSubtract
  intro s s1 u src dst d v hcl hd hv
  refine ⟨fun hu => ?_, fun hu => ?_, fun hu => ?_, fun hu => ?_, fun hu => ?_, fun hu => ?_⟩
  · exact intOp_completes hcl hd hv (addWords_plain v d) hu
  · exact intOp_completes hcl hd hv (addWords_carry v d s.st.c) hu
  · exact intOp_completes hcl hd hv (subWords_plain d v) hu
  · exact intOp_completes hcl hd hv (subWords_borrow d v s.st.c) hu
  · exact intOp_completes hcl hd hv (subWords_plain v d) hu
  · exact intOp_completes hcl hd hv (subWords_borrow v d s.st.c) hu

/-- Settles O26: the shape of a test, whose flags are those of the difference or of the AND. -/
theorem compareAndTest : Obligations.CompareAndTest := by
  unfold Obligations.CompareAndTest
  refine ⟨fun s s1 src dst a b ha hb => ?_, fun s s1 src dst a b ha hb => ?_, fun s s1 x y a b hab => ⟨?_, ?_⟩⟩
  · exact intTest_completes ha hb (subWords_plain a b)
  · exact intTest_completes ha hb rfl
  · exact intTest3_completes hab (subWords_plain a b)
  · exact intTest3_completes hab rfl

/-- Settles O28: the shapes of the two-operand and one-operand instructions at a bitwise operation. -/
theorem bitwiseLogic : Obligations.BitwiseLogic := by
  unfold Obligations.BitwiseLogic
  intro s s1 u src dst d v hcl hv
  refine ⟨fun hu => ?_, fun hd => ⟨fun hu => ?_, fun hu => ?_, fun hu => ?_, fun hu => ?_⟩⟩
  · exact intUnary_completes hcl hv rfl hu
  · exact intOp_completes hcl hd hv rfl hu
  · exact intOp_completes hcl hd hv rfl hu
  · exact intOp_completes hcl hd hv rfl hu
  · exact intOp_completes hcl hd hv rfl hu

/-- Settles O29: the three-operand shape at each operation. -/
theorem threeOperandIntegers : Obligations.ThreeOperandIntegers := by
  unfold Obligations.ThreeOperandIntegers
  intro s s1 u x y dst a b hx hy hab
  refine ⟨fun hu => ?_, fun hu => ?_, fun hu => ?_, fun hu => ?_, fun hu => ?_, fun hu => ?_, fun hu => ?_, fun hu => ?_⟩
  · exact int3_completes hx hy hab (addWords_plain a b) hu
  · exact int3_completes hx hy hab (addWords_carry a b s.st.c) hu
  · exact int3_completes hx hy hab (subWords_plain a b) hu
  · exact int3_completes hx hy hab (subWords_borrow a b s.st.c) hu
  · exact int3_completes hx hy hab rfl hu
  · exact int3_completes hx hy hab rfl hu
  · exact int3_completes hx hy hab rfl hu
  · exact int3_completes hx hy hab rfl hu

/-! ### Negation, absolute value, one step of a division -/

theorem subWords_zero (v : Word) (c : Bool) :
    subWords 0 v c = ⟨-v - BitVec.ofNat 32 c.toNat, some (decide (v.toNat + c.toNat ≠ 0)),
      overflows (-v.toInt - c.toNat)⟩ := by
  simp [subWords_borrow, Nat.pos_iff_ne_zero]

theorem subWords_zero_plain (v : Word) :
    subWords 0 v false = ⟨-v, some (decide (v ≠ 0#32)), overflows (-v.toInt)⟩ := by
  have hne : (v.toNat ≠ 0) = (v ≠ 0#32) := by simp [BitVec.toNat_eq]
  simpa [hne] using subWords_zero v false

theorem overflows_iff (x : Int) : overflows x = true ↔ x < -2147483648 ∨ 2147483647 < x := by
  simp only [overflows, Bool.not_eq_true', Bool.and_eq_false_iff, decide_eq_false_iff_not, not_le]

theorem absWord_eq (v : Word) :
    absWord v = ⟨if v.msb then -v else v, none, decide (v = 0x80000000#32)⟩ := by
  have hmsb : v.msb = decide (v.toInt < 0) := BitVec.msb_eq_toInt
  have hlo := v.le_toInt
  have hmost : v = 0x80000000#32 ↔ v.toInt = -2147483648 := by rw [← BitVec.toInt_inj]; rfl
  by_cases h : 0 ≤ v.toInt
  · have hne : ¬v = 0x80000000#32 := by rw [hmost]; omega
    simp [absWord, h, hmsb, hne]
  · have hover : overflows (-v.toInt) = decide (v = 0x80000000#32) := by
      rw [Bool.eq_iff_iff, overflows_iff, decide_eq_true_eq, hmost]
      omega
    have hneg : v.toInt < 0 := by omega
    rw [absWord, if_neg h, subWords_zero_plain, hover, hmsb, decide_eq_true hneg, if_pos rfl]

theorem ofNat_double_add_one (n : Nat) : BitVec.ofNat 32 (n * 2 + 1) = (BitVec.ofNat 32 n <<< 1) ^^^ 1#32 := by
  apply BitVec.eq_of_getLsbD_eq
  intro i hi
  cases i with
  | zero => simp [BitVec.getLsbD_ofNat, Nat.testBit_zero]
  | succ i =>
    have hhalf : (n * 2 + 1) / 2 = n := by omega
    have hlt : i < 32 := by omega
    rw [BitVec.getLsbD_ofNat, BitVec.getLsbD_xor, BitVec.getLsbD_shiftLeft, BitVec.getLsbD_ofNat, Nat.testBit_succ, hhalf]
    simp [hi, hlt, BitVec.getLsbD_ofNat, Nat.testBit_succ]

theorem divisionStep_ge (h : v.toNat ≤ d.toNat) : divisionStep d v = ((d - v) <<< 1) ^^^ 1#32 := by
  have hsub : BitVec.ofNat 32 (d.toNat - v.toNat) = d - v := by
    rw [← BitVec.toNat_sub_of_le h, BitVec.ofNat_toNat, BitVec.setWidth_eq]
  rw [divisionStep, if_pos h, ofNat_double_add_one, hsub]

theorem divisionStep_lt (h : d.toNat < v.toNat) : divisionStep d v = d <<< 1 := by
  apply BitVec.eq_of_toNat_eq
  rw [divisionStep, if_neg (by omega), BitVec.toNat_shiftLeft, Nat.shiftLeft_eq, pow_one, BitVec.toNat_ofNat]

theorem subc_completes (hcl : srcClobbers src dst = false) (hd : readInt dst s = .ok d)
    (hv : srcInt .signed src s = .ok (v, s1)) (hu : writeInt dst (divisionStep d v) s1 = .ok u) :
    exec (.subc src dst) s = .next (sequential u) := by
  show toOutcome _ = _
  simp [guardDest, hcl, hd, hv, hu]

/-- Settles O25: NEGI and NEGB subtract from 0, ABSI negates where bit 31 is 1, and SUBC writes one step of the division. -/
theorem negateAbsoluteAndDivisionStep : Obligations.NegateAbsoluteAndDivisionStep := by
  unfold Obligations.NegateAbsoluteAndDivisionStep
  refine ⟨fun s s1 u src dst v hcl hv => ⟨fun hu => ?_, fun hu => ?_, fun hu => ?_⟩,
    fun s s1 u src dst d v hcl hd hv => ⟨fun h hu => ?_, fun h hu => ?_⟩⟩
  · exact intUnary_completes hcl hv (subWords_zero_plain v) hu
  · exact intUnary_completes hcl hv (subWords_zero v s.st.c) hu
  · exact intUnary_completes hcl hv (absWord_eq v) hu
  · exact subc_completes hcl hd hv (divisionStep_ge h ▸ hu)
  · exact subc_completes hcl hd hv (divisionStep_lt h ▸ hu)

/-! ### Products -/

theorem fits24_iff (a : Word) : fits24 a = true ↔ -8388608 ≤ a.toInt ∧ a.toInt ≤ 8388607 := by
  simp only [fits24, Bool.and_eq_true, decide_eq_true_eq]
  omega

theorem mulWords_small {a b : Word}
    (h : -8388608 ≤ a.toInt ∧ a.toInt ≤ 8388607 ∧ -8388608 ≤ b.toInt ∧ b.toInt ≤ 8388607) (s : State) :
    mulWords a b s = (⟨a * b, none, overflows (a.toInt * b.toInt)⟩, s) := by
  obtain ⟨h1, h2, h3⟩ := h
  simp [mulWords, (fits24_iff a).mpr ⟨h1, h2⟩, (fits24_iff b).mpr h3, outOfRange_eq, BitVec.ofInt_mul]

theorem mulWords_free {a b : Word}
    (h : ¬(-8388608 ≤ a.toInt ∧ a.toInt ≤ 8388607 ∧ -8388608 ≤ b.toInt ∧ b.toInt ≤ 8388607)) (s : State) :
    mulWords a b s = (⟨Config.freeWord s.draws, none, Config.freeBit s.draws⟩, s.tick) := by
  have hfit : ¬(fits24 a = true ∧ fits24 b = true) := by
    rwa [fits24_iff, fits24_iff, and_assoc]
  simp [mulWords, hfit]

theorem mpyi_completes {s2 : State} (hcl : srcClobbers src dst = false) (hd : readInt dst s = .ok d)
    (hv : srcInt .signed src s = .ok (v, s1)) (hm : mulWords v d s1 = (r, s2))
    (hu : s2.integerWrite .mulInt dst r.value r.c r.v = .ok u) : exec (.mpyi src dst) s = .next (sequential u) := by
  show toOutcome _ = _
  simp [guardDest, hcl, hd, hv, hm, putInt_eq, hu]

theorem mpyi3_completes {x y : Src3} {a b : Word} {s2 : State} (hx : src3Clobbers x dst = false)
    (hy : src3Clobbers y dst = false) (hab : both3Int x y s = .ok (a, b, s1)) (hm : mulWords a b s1 = (r, s2))
    (hu : s2.integerWrite .mulInt dst r.value r.c r.v = .ok u) : exec (.mpyi3 x y dst) s = .next (sequential u) := by
  show toOutcome _ = _
  simp [guardDest, hx, hy, hab, hm, putInt_eq, hu]

/-- Settles O27: the product of operands that fit 24 bits, and the free product of the others. -/
theorem multiplyIntegers : Obligations.MultiplyIntegers := by
  unfold Obligations.MultiplyIntegers
  refine ⟨fun s s1 u src dst d v hcl hd hv => ⟨fun h hu => ?_, fun h hu => ?_⟩,
    fun s s1 u x y dst a b hx hy hab => ⟨fun h hu => ?_, fun h hu => ?_⟩⟩
  · exact mpyi_completes hcl hd hv (mulWords_small h s1) hu
  · exact mpyi_completes hcl hd hv (mulWords_free h s1) hu
  · exact mpyi3_completes hx hy hab (mulWords_small h s1) hu
  · exact mpyi3_completes hx hy hab (mulWords_free h s1) hu

/-! ### Rotates -/

theorem rol_value (v : Word) : v.extractLsb' 0 31 ++ v.extractLsb' 31 1 = v.rotateLeft 1 := by
  apply BitVec.eq_of_getLsbD_eq
  intro i hi
  rw [BitVec.getLsbD_append]
  cases i with
  | zero => simp [BitVec.getLsbD_rotateLeft]
  | succ i =>
    have hlt : i < 32 := by omega
    simp [BitVec.getLsbD_rotateLeft, hi, hlt, Nat.lt_of_succ_lt_succ hi]

theorem rolc_value (v : Word) (c : Bool) :
    v.extractLsb' 0 31 ++ BitVec.ofBool c = v <<< 1 ||| BitVec.ofNat 32 c.toNat := by
  apply BitVec.eq_of_getLsbD_eq
  intro i hi
  rw [BitVec.getLsbD_append]
  cases i with
  | zero => cases c <;> simp
  | succ i =>
    have hlt : i < 32 := by omega
    cases c <;> simp [hi, hlt, Nat.lt_of_succ_lt_succ hi]

theorem ror_value (v : Word) : v.extractLsb' 0 1 ++ v.extractLsb' 1 31 = v.rotateRight 1 := by
  apply BitVec.eq_of_getLsbD_eq
  intro i hi
  rw [BitVec.getLsbD_append]
  by_cases h : i < 31
  · simp [BitVec.getLsbD_rotateRight, h]
  · obtain rfl : i = 31 := by omega
    simp [BitVec.getLsbD_rotateRight]

theorem rorc_value (v : Word) (c : Bool) :
    BitVec.ofBool c ++ v.extractLsb' 1 31 = v >>> 1 ||| BitVec.ofNat 32 c.toNat <<< 31 := by
  apply BitVec.eq_of_getLsbD_eq
  intro i hi
  rw [BitVec.getLsbD_append]
  by_cases h : i < 31
  · simp [BitVec.getLsbD_shiftLeft, h]
  · obtain rfl : i = 31 := by omega
    cases c <;> simp

/-- Settles O31: the four rotated words, bit by bit. -/
theorem rotates : Obligations.Rotates := by
  unfold Obligations.Rotates
  intro s u dst v hv
  refine ⟨fun hu => ?_, fun hu => ?_, fun hu => ?_, fun hu => ?_⟩
  · exact rotate_completes hv (by rw [← rol_value, BitVec.msb_eq_getLsbD_last]) hu
  · exact rotate_completes hv
      (by rw [← rolc_value, BitVec.msb_eq_getLsbD_last]) hu
  · exact rotate_completes hv (by rw [← ror_value]) hu
  · exact rotate_completes hv
      (by rw [← rorc_value]) hu

end Sys2Proof.Machine
end

section
/-! The flags of results with the default table, and the conditions after a comparison. -/
namespace Sys2Proof.Machine

variable {s : State}

theorem default_cmpInt_flags (h : s.params.flagPolicy = defaultFlagPolicy) (x : Word) (c v : Bool) :
    (s.integerFlags .cmpInt x (some c) v).st =
      { s.st with c := c, v := v, z := decide (x = 0#32), n := x.msb, uf := false, lv := s.st.lv || v } := by
  simp only [State.integerFlags, h]
  rfl

/-- Settles O12: each entry of the default table, applied to the flags of the result. -/
theorem flagsOfResults : Obligations.FlagsOfResults := by
  unfold Obligations.FlagsOfResults
  refine ⟨rfl, fun s x c v h => ⟨?_, ?_, ?_, ?_⟩, fun s p v u h => ⟨?_, ?_⟩, fun s v u z n h => ?_⟩
  · rintro k (rfl | rfl | rfl) <;> (simp only [State.integerFlags, h]; rfl)
  · rintro k (rfl | rfl | rfl) <;> (simp only [State.integerFlags, h]; rfl)
  · rintro k (rfl | rfl | rfl) <;> (simp only [State.integerFlags, h]; rfl)
  · simp only [State.integerFlags, h]
    rfl
  · rintro k (rfl | rfl) <;> (simp only [State.floatFlags, h]; rfl)
  · simp only [State.floatFlags, h]
    rfl
  · simp only [State.pairFlags, h]
    rfl

/-! ### The conditions after a comparison -/

theorem condTrue_sequential (c : Cond) (u : State) : condTrue c (sequential u).st = condTrue c u.st := by
  rw [sequential_st]
  cases c <;> rfl

theorem toInt_sub_of_not_overflows {a b : Word} (h : overflows (a.toInt - b.toInt) = false) :
    (a - b).toInt = a.toInt - b.toInt := by
  rw [← Bool.not_eq_true, overflows_iff] at h
  rw [BitVec.toInt_sub, Int.bmod_eq_of_le] <;> omega

theorem sub_eq_zero_word {a b : Word} : a - b = 0#32 ↔ a = b := by
  rw [BitVec.sub_eq_iff_eq_add, BitVec.zero_add]

/-- Settles O23: the flags of the difference, and where it does not overflow its sign is that of the comparison. -/
theorem conditionsAfterComparison : Obligations.ConditionsAfterComparison := by
  unfold Obligations.ConditionsAfterComparison
  intro s s1 src dst a b ha hb hp
  refine ⟨_, intTest_completes ha hb (subWords_plain a b), ?_⟩
  have hp1 : s1.params.flagPolicy = defaultFlagPolicy := (congrArg Params.flagPolicy (srcInt_params hb)).trans hp
  have heq : a = b ↔ a.toNat = b.toNat := BitVec.toNat_inj.symm
  simp only [condTrue_sequential]
  simp only [default_cmpInt_flags hp1, condTrue, sub_eq_zero_word, heq, ne_eq]
  refine ⟨trivial, ?_, ?_, ?_, trivial, ?_, fun hover => ?_⟩
  · rw [← Bool.decide_or, decide_eq_decide]
    omega
  · rw [← decide_not, ← decide_not, ← Bool.decide_and, decide_eq_decide]
    omega
  · rw [← decide_not, decide_eq_decide]
    omega
  · rw [← decide_not]
  · have hsign : (a - b).msb = decide (a.toInt < b.toInt) := by
      rw [BitVec.msb_eq_toInt, toInt_sub_of_not_overflows hover, decide_eq_decide]
      omega
    have heqInt : a.toNat = b.toNat ↔ a.toInt = b.toInt := by rw [BitVec.toNat_inj, BitVec.toInt_inj]
    rw [hsign, decide_eq_decide.mpr heqInt]
    refine ⟨rfl, ?_, ?_, ?_⟩
    · rw [← Bool.decide_or, decide_eq_decide]
      omega
    · rw [← decide_not, ← decide_not, ← Bool.decide_and, decide_eq_decide]
      omega
    · rw [← decide_not, decide_eq_decide]
      omega

end Sys2Proof.Machine
end

section
/-! The shifts: value, carry and overflow of a left and of a right shift. -/
namespace Sys2Proof.Machine

variable {v c : Word} {bits m k : Nat}

theorem shiftCount_eq (h : bits ≤ 32) (c : Word) : shiftCount bits c = (c.setWidth bits).toInt := by
  rw [shiftCount, Nat.min_eq_left h]

theorem ofNat_mul_two_pow (v : Word) (m : Nat) : BitVec.ofNat 32 (v.toNat * 2 ^ m) = v <<< m := by
  apply BitVec.eq_of_toNat_eq
  rw [BitVec.toNat_ofNat, BitVec.toNat_shiftLeft, Nat.shiftLeft_eq]

theorem ofNat_div_two_pow (v : Word) (m : Nat) : BitVec.ofNat 32 (v.toNat / 2 ^ m) = v >>> m := by
  rw [← Nat.shiftRight_eq_div_pow, ← BitVec.toNat_ushiftRight, BitVec.ofNat_toNat, BitVec.setWidth_eq]

theorem ofInt_div_two_pow (v : Word) (m : Nat) : BitVec.ofInt 32 (v.toInt / 2 ^ m) = v.sshiftRight m := by
  rw [BitVec.sshiftRight, Int.shiftRight_eq_div_pow]
  rfl

/-- The bits of an arithmetic right shift by k are those from bit k on. -/
theorem getLsbD_of_sshiftRight_eq {w : Word} (h : v.sshiftRight k = w) {i : Nat} (hk : k ≤ i) (hi : i < 32) :
    v.getLsbD i = w.getLsbD (i - k) := by
  rw [← h, BitVec.getLsbD_sshiftRight, if_pos (by omega), Nat.add_sub_cancel' hk]
  simp
  omega

/-- A number of 32 bits is 0 or -1 above bit k exactly when its bits from k on are all equal to the sign. -/
theorem toInt_div_uniform_iff (hk : k ≤ 31) :
    v.toInt / 2 ^ k = 0 ∨ v.toInt / 2 ^ k = -1 ↔ ∀ i, k ≤ i → i < 32 → v.getLsbD i = v.msb := by
  have hshift : (v.sshiftRight k).toInt = v.toInt / 2 ^ k := by
    rw [BitVec.toInt_sshiftRight, Int.shiftRight_eq_div_pow]
    rfl
  rw [← hshift, BitVec.msb_eq_getLsbD_last]
  constructor
  · rintro (h | h) i hi hi'
    · have hw : v.sshiftRight k = 0#32 := BitVec.toInt_inj.mp h
      rw [getLsbD_of_sshiftRight_eq hw hi hi', getLsbD_of_sshiftRight_eq hw hk (by omega)]
      simp
    · have hw : v.sshiftRight k = BitVec.allOnes 32 := BitVec.toInt_inj.mp h
      rw [getLsbD_of_sshiftRight_eq hw hi hi', getLsbD_of_sshiftRight_eq hw hk (by omega), BitVec.getLsbD_allOnes,
        BitVec.getLsbD_allOnes, decide_eq_decide]
      omega
  · intro h
    have hbit : ∀ i, i < 32 → (v.sshiftRight k).getLsbD i = v.getLsbD 31 := by
      intro i hi
      rw [BitVec.getLsbD_sshiftRight, BitVec.msb_eq_getLsbD_last]
      split
      · rw [h _ (by omega) (by omega)]
        simp
        omega
      · simp
        omega
    cases hmsb : v.getLsbD 31 with
    | false =>
      left
      have hw : v.sshiftRight k = 0#32 := BitVec.eq_of_getLsbD_eq fun i hi => by rw [hbit i hi, hmsb]; simp
      rw [hw]
      rfl
    | true =>
      right
      have hw : v.sshiftRight k = BitVec.allOnes 32 := BitVec.eq_of_getLsbD_eq fun i hi => by
        rw [hbit i hi, hmsb, BitVec.getLsbD_allOnes, decide_eq_true hi]
      rw [hw]
      rfl

/-- V' of an arithmetic left shift: a bit shifted out, or the new sign, differs from the old sign (R171). -/
theorem not_keepsSign (v : Word) (m : Nat) :
    (!keepsSign v m) = (decide (∃ i : Fin 32, 32 ≤ i.val + m ∧ v.getLsbD i.val ≠ v.msb) || ((v <<< m).msb != v.msb)) := by
  rw [Bool.eq_iff_iff, Bool.or_eq_true, decide_eq_true_eq, bne_iff_ne, Bool.not_eq_true', ← Bool.not_eq_true]
  by_cases hm : m ≤ 31
  · have hkeeps : keepsSign v m = true ↔ ∀ i, 31 - m ≤ i → i < 32 → v.getLsbD i = v.msb := by
      rw [← toInt_div_uniform_iff (by omega), keepsSign]
      simp [hm]
    have hnew : (v <<< m).msb = v.getLsbD (31 - m) := by
      rw [BitVec.msb_eq_getLsbD_last, BitVec.getLsbD_shiftLeft]
      simp
      omega
    rw [hkeeps, hnew]
    constructor
    · intro h
      push Not at h
      obtain ⟨i, hlo, hhi, hne⟩ := h
      obtain rfl | hlt := Nat.eq_or_lt_of_le hlo
      · exact .inr hne
      · exact .inl ⟨⟨i, hhi⟩, by show 32 ≤ i + m; omega, hne⟩
    · rintro (⟨i, hi, hne⟩ | hne) h
      · exact hne (h i.val (by omega) i.isLt)
      · exact hne (h _ le_rfl (by omega))
  · have hzero : v <<< m = 0#32 := BitVec.shiftLeft_eq_zero (by omega)
    have hkeeps : keepsSign v m = true ↔ v = 0#32 := by simp [keepsSign, hm]
    rw [hkeeps, hzero]
    constructor
    · intro h
      cases hmsb : v.msb with
      | true => simp
      | false =>
        left
        by_contra hno
        push Not at hno
        exact h (BitVec.eq_of_getLsbD_eq fun i hi => by simpa using hno ⟨i, hi⟩ (by show 32 ≤ i + m; omega))
    · rintro (⟨i, -, hne⟩ | hne) rfl
      · simp at hne
      · simp at hne

theorem shiftLogical_left (h : 0 ≤ shiftCount bits c) :
    shiftLogical bits v c = ⟨v <<< (shiftCount bits c).toNat,
      some (decide (1 ≤ (shiftCount bits c).toNat ∧ (shiftCount bits c).toNat ≤ 32) &&
        v.getLsbD (32 - (shiftCount bits c).toNat)), false⟩ := by
  have habs : (shiftCount bits c).natAbs = (shiftCount bits c).toNat := by omega
  rw [shiftLogical, if_pos h, habs, ofNat_mul_two_pow, Bool.decide_and]

theorem shiftArith_left (h : 0 ≤ shiftCount bits c) :
    shiftArith bits v c = ⟨v <<< (shiftCount bits c).toNat,
      some (decide (1 ≤ (shiftCount bits c).toNat ∧ (shiftCount bits c).toNat ≤ 32) &&
        v.getLsbD (32 - (shiftCount bits c).toNat)), !keepsSign v (shiftCount bits c).toNat⟩ := by
  have habs : (shiftCount bits c).natAbs = (shiftCount bits c).toNat := by omega
  rw [shiftArith, if_pos h, habs, ofNat_mul_two_pow, Bool.decide_and]

theorem shiftLogical_right (h : shiftCount bits c < 0) :
    shiftLogical bits v c = ⟨v >>> (-shiftCount bits c).toNat,
      some (decide ((-shiftCount bits c).toNat ≤ 32) && v.getLsbD ((-shiftCount bits c).toNat - 1)), false⟩ := by
  have habs : (shiftCount bits c).natAbs = (-shiftCount bits c).toNat := by omega
  rw [shiftLogical, if_neg (by omega), habs, ofNat_div_two_pow]

theorem shiftArith_right (h : shiftCount bits c < 0) :
    shiftArith bits v c = ⟨v.sshiftRight (-shiftCount bits c).toNat,
      some (if (-shiftCount bits c).toNat ≤ 32 then v.getLsbD ((-shiftCount bits c).toNat - 1) else v.msb), false⟩ := by
  have habs : (shiftCount bits c).natAbs = (-shiftCount bits c).toNat := by omega
  rw [shiftArith, if_neg (by omega), habs, ofInt_div_two_pow]

/-- Settles O30: the count's sign gives the direction, and V' says that the bits moved out and the new sign are not all
the old sign. -/
theorem shifts : Obligations.Shifts := by
  unfold Obligations.Shifts
  refine ⟨rfl, fun bits v c hbits => ?_, fun s s1 u src dst v c hcl hd hv => ⟨fun hu => ?_, fun hu => ?_⟩,
    fun s s1 u x y dst v c hx hy hvc => ⟨fun hu => ?_, fun hu => ?_⟩⟩
  · rw [← shiftCount_eq hbits]
    exact ⟨fun h => ⟨shiftLogical_left h, not_keepsSign v _ ▸ shiftArith_left h⟩,
      fun h => ⟨shiftLogical_right h, shiftArith_right h⟩⟩
  · exact intOp_completes hcl hd hv rfl hu
  · exact intOp_completes hcl hd hv rfl hu
  · exact int3_completes hx hy hvc rfl hu
  · exact int3_completes hx hy hvc rfl hu

end Sys2Proof.Machine
end

section
/-! The float instructions, the loads, the stores and the stack complete. -/
namespace Sys2Proof.Machine

variable {i : Instr} {s s1 u : State} {k : FlagClass} {src : FSrc} {n : Rn} {v : Ext} {r : FltResult}

/-! ### Float arithmetic and conversions -/

theorem fltOp_completes {f : Ext → Ext → FltResult} (hv : srcFlt src s = .ok (v, s1)) :
    toOutcome (fltOp k f src n s) = .next (sequential (s1.floatResult k n (f (s.rn n) v).value (f (s.rn n) v).v
      (f (s.rn n) v).uf)) :=
  toOutcome_next.mpr (fltOp_ok.mpr ⟨v, s1, hv, by rw [putFlt_eq]⟩)

theorem fltUnary_completes {f : Ext → FltResult} (hv : srcFlt src s = .ok (v, s1)) :
    toOutcome (fltUnary k f src n s) = .next (sequential (s1.floatResult k n (f v).value (f v).v (f v).uf)) :=
  toOutcome_next.mpr (fltUnary_ok.mpr ⟨v, s1, hv, by rw [putFlt_eq]⟩)

theorem flt3_completes {f : Ext → Ext → FltResult} {x y : FSrc3} {a b : Ext} (hab : both3Flt x y s = .ok (a, b, s1)) :
    toOutcome (flt3 k f x y n s) = .next (sequential (s1.floatResult k n (f a b).value (f a b).v (f a b).uf)) :=
  toOutcome_next.mpr (flt3_ok.mpr ⟨a, b, s1, hab, by rw [putFlt_eq]⟩)

theorem cmpf_completes (hv : srcFlt src s = .ok (v, s1)) :
    exec (.cmpf src n) s = .next (sequential (s1.floatFlags .cmpFlt (fsub (s.rn n) v).value (fsub (s.rn n) v).v
      (fsub (s.rn n) v).uf)) := by
  show toOutcome _ = _
  simp [hv, putFlags_float]

theorem cmpf3_completes {x y : FSrc3} {a b : Ext} (hab : both3Flt x y s = .ok (a, b, s1)) :
    exec (.cmpf3 x y) s = .next (sequential (s1.floatFlags .cmpFlt (fsub a b).value (fsub a b).v (fsub a b).uf)) := by
  show toOutcome _ = _
  simp [hab, putFlags_float]

/-- Settles O36: the two shapes of float arithmetic at each function, and the comparisons, which write flags alone. -/
theorem floatArithmeticAndComparison : Obligations.FloatArithmeticAndComparison := by
  unfold Obligations.FloatArithmeticAndComparison
  refine ⟨fun s s1 src n v hv => ⟨?_, ?_, ?_, ?_, cmpf_completes hv⟩,
    fun s s1 x y n a b hab => ⟨flt3_completes hab, flt3_completes hab, flt3_completes hab, cmpf3_completes hab⟩⟩
  · exact fltOp_completes (f := fun d v => fadd v d) hv
  · exact fltOp_completes (f := fsub) hv
  · exact fltOp_completes (f := fun d v => fsub v d) hv
  · exact fltOp_completes (f := fun d v => fmul v d) hv

theorem float_completes {x : Src} {w : Word} (hv : srcInt .signed x s = .ok (w, s1)) :
    exec (.float x n) s = .next (sequential (s1.floatResult .arithFlt n (ffloat w) false false)) := by
  show toOutcome _ = _
  simp [hv, putFlt_eq]

theorem fix_completes {dst : Reg} (hcl : fsrcClobbers src dst = false) (hv : srcFlt src s = .ok (v, s1))
    (hu : s1.integerWrite .fix dst (ffix v).value none (ffix v).v = .ok u) :
    exec (.fix src dst) s = .next (sequential u) := by
  show toOutcome _ = _
  simp [guardDest, hcl, hv, putInt_eq, fixResult, hu]

/-- Settles O37: the shape of a one-operand float instruction at each function, FLOAT and FIX. -/
theorem unaryFloatsAndConversions : Obligations.UnaryFloatsAndConversions := by
  unfold Obligations.UnaryFloatsAndConversions
  refine ⟨fun s s1 src n v hv => ⟨?_, ?_, ?_, ?_⟩, fun s s1 src n v => float_completes,
    fun s s1 u src dst v => fix_completes⟩
  · exact fltUnary_completes (f := fabs) hv
  · exact fltUnary_completes (f := fneg) hv
  · exact fltUnary_completes (f := fnorm) hv
  · exact fltUnary_completes (f := frnd) hv

/-! ### Loads -/

theorem ldf_completes (hv : srcFlt src s = .ok (v, s1)) :
    exec (.ldf src n) s = .next (sequential (s1.floatLoad n v)) := by
  show toOutcome _ = _
  simp [hv, putLoadFlt, putFlt_eq, State.floatLoad]

theorem lde_completes (hv : srcFlt src s = .ok (v, s1)) :
    exec (.lde src n) s =
      .next (sequential (s1.setR n (v.extractLsb' 32 8 ++ (s.rn n).extractLsb' 0 32))) := by
  show toOutcome _ = _
  simp only [hv, ok_bind, toOutcome_ok]

theorem ldm_completes {m : Word} {s2 : State} (hv : srcFlt src s = .ok (v, s1)) (hm : ldmMantissa src v s1 = (m, s2)) :
    exec (.ldm src n) s = .next (sequential (s2.setR n ((s.rn n).extractLsb' 32 8 ++ m))) := by
  show toOutcome _ = _
  simp only [hv, hm, ok_bind, toOutcome_ok]

theorem ldfcond_completes {c : Cond} (hv : srcFlt src s = .ok (v, s1)) :
    exec (.ldfcond c src n) s = .next (sequential (if condTrue c s.st then s1.setR n v else s1)) := by
  show toOutcome _ = _
  simp only [hv, ok_bind, toOutcome_ok]

/-- LDM takes the mantissa of its operand, but of a short immediate zero. -/
theorem ldmMantissa_plain (h : ∀ k, src = .imm k → k.extractLsb' 12 4 ≠ 8#4) (v : Ext) (s : State) :
    ldmMantissa src v s = (mantField v, s) := by
  cases src with
  | imm k => simp [ldmMantissa, h k rfl]
  | reg | mem => rfl

/-- LDM of a short immediate zero has one of two patterns (log 23). -/
theorem ldmMantissa_zero {k : BitVec 16} (h : k.extractLsb' 12 4 = 8#4) (v : Ext) (s : State) :
    ∃ m : Word, (m = 0#32 ∨ m = k.extractLsb' 0 12 ++ 0#20) ∧ ldmMantissa (.imm k) v s = (m, s.tick) := by
  refine ⟨_, ?_, by rw [ldmMantissa, if_pos h]; rfl⟩
  split
  · exact .inr rfl
  · exact .inl rfl

theorem ldicond_completes {c : Cond} {x : Src} {dst : Reg} {w : Word} (hcl : srcClobbers x dst = false)
    (hd : namedReg dst = true) (hv : srcInt .signed x s = .ok (w, s1))
    (hu : (if condTrue c s.st then writeInt dst w s1 else .ok s1) = .ok u) :
    exec (.ldicond c x dst) s = .next (sequential u) := by
  show toOutcome _ = _
  simp only [guardDest, hcl, hd, hv, Bool.not_false, need_true, ok_bind]
  split at hu <;> simp_all

/-- Settles O38: each load completes with what its operand gives. -/
theorem loads : Obligations.Loads := by
  unfold Obligations.Loads
  refine ⟨fun s s1 src n v hv => ⟨ldf_completes hv, lde_completes hv, fun h => ?_, ?_, fun c hc => ?_, fun c hc => ?_⟩,
    fun s s1 u src dst w hcl hv => ⟨fun hu => intUnary_completes hcl hv rfl hu, fun c hc hu => ?_, fun c hc hd => ?_⟩,
    fun s p => ?_⟩
  · exact ldm_completes hv (ldmMantissa_plain h v s1)
  · rintro k rfl hk
    cases hv
    obtain ⟨m, hm, hld⟩ := ldmMantissa_zero hk (widenShort k) s
    exact ⟨m, hm, ldm_completes rfl hld⟩
  · rw [ldfcond_completes hv, if_pos hc]
  · rw [ldfcond_completes hv, if_neg (by simp [hc])]
  · exact ldicond_completes hcl (writeInt_named hu) hv (by rw [if_pos hc, hu])
  · exact ldicond_completes hcl hd hv (by rw [if_neg (by simp [hc])])
  · have hpage : BitVec.ofNat 32 p.toNat = p.setWidth 32 := BitVec.ofNat_toNat 32 p
    rw [hpage]
    rfl

/-! ### Stores and the stack -/

theorem storeAt_completes {m : MemOp} {a : Addr} (he : ea m s = .ok (a, s1)) (ha : s.writable a) (w : Word) :
    toOutcome (storeAt w m s) = .next (sequential (s1.store a w)) :=
  toOutcome_next.mpr (storeAt_ok.mpr ⟨a, s1, he, ha.1, ha.2, rfl⟩)

theorem sti_completes {m : MemOp} {a : Addr} {q : Reg} {w : Word} (he : ea m s = .ok (a, s1)) (ha : s.writable a)
    (hw : readInt q s = .ok w) : exec (.sti q m) s = .next (sequential (s1.store a w)) := by
  show toOutcome (readInt q s >>= _) = _
  rw [hw]
  exact storeAt_completes he ha w

theorem push_completes (h : s.writable (low24 (s.sp + 1))) (w : Word) :
    push w s = .ok { s.store (low24 (s.sp + 1)) w with sp := s.sp + 1 } := push_ok.mpr ⟨h.1, h.2, rfl⟩

theorem exec_push {q : Reg} {w : Word} (hw : readInt q s = .ok w) (hp : push w s = .ok u) :
    exec (.push q) s = .next (sequential u) := by
  show toOutcome _ = _
  simp only [hw, hp, ok_bind, toOutcome_ok]

theorem exec_pushf (hp : push (narrow (s.rn n)) s = .ok u) : exec (.pushf n) s = .next (sequential u) := by
  show toOutcome _ = _
  simp only [hp, ok_bind, toOutcome_ok]

theorem exec_pop {q : Reg} {w : Word} (hp : pop s = .ok (w, s1)) (hu : s1.integerWrite .loadInt q w none false = .ok u) :
    exec (.pop q) s = .next (sequential u) := by
  show toOutcome _ = _
  simp only [hp, putInt_eq, plainResult, hu, ok_bind, toOutcome_ok]

theorem exec_popf {w : Word} (hp : pop s = .ok (w, s1)) :
    exec (.popf n) s = .next (sequential (s1.floatLoad n (widen w))) := by
  show toOutcome _ = _
  simp only [hp, putLoadFlt, putFlt_eq, State.floatLoad, ok_bind, toOutcome_ok]

/-- Settles O39: what is stored is read before the address update, and SP moves before a push and after a pop. -/
theorem storesAndStack : Obligations.StoresAndStack := by
  unfold Obligations.StoresAndStack
  refine ⟨fun s s1 m a he ha => ⟨fun n => storeAt_completes he ha _, fun q w => sti_completes he ha⟩,
    fun s h => ⟨fun q w hw => exec_push hw (push_completes h w), fun n => exec_pushf (push_completes h _)⟩,
    fun s s1 w hw => ⟨fun dst u => exec_pop (pop_ok.mpr ⟨s1, hw, rfl⟩), fun n => exec_popf (pop_ok.mpr ⟨s1, hw, rfl⟩)⟩⟩

end Sys2Proof.Machine
end

section
/-! Branches, calls, returns, repeats, waiting and low power: what each does where it may stand. -/
namespace Sys2Proof.Machine

variable {s s1 u : State} {c : Cond} {x : Csrc} {a : Addr}

theorem guardControl_pass (hp : s.pend = none) (hr : s.rpts = .off) : guardControl s = .ok () :=
  guardControl_ok.mpr ⟨hp, hr⟩

theorem msb_eq_false_iff_toNat {w : Nat} (v : BitVec (w + 1)) : v.msb = false ↔ v.toNat < 2 ^ w := by
  rw [BitVec.msb_eq_decide, decide_eq_false_iff_not]
  simp

/-! ### Branches -/

/-- A branch's displacement is added to its address and its constant, modulo 2^24 (R357). -/
theorem toNat_target (p : Addr) (k : Nat) (d : BitVec 16) :
    ((p + BitVec.ofNat 24 k + d.signExtend 24).toNat : Int) = ((p.toNat : Int) + k + d.toInt) % 16777216 := by
  have hp : p = BitVec.ofInt 24 p.toNat := by simp
  have hk : BitVec.ofNat 24 k = BitVec.ofInt 24 k := by simp
  have hd : d.signExtend 24 = BitVec.ofInt 24 d.toInt := rfl
  have hsum : p + BitVec.ofNat 24 k + d.signExtend 24 = BitVec.ofInt 24 (p.toNat + k + d.toInt) := by
    rw [BitVec.ofInt_add, BitVec.ofInt_add, ← hp, ← hk, ← hd]
  rw [hsum, BitVec.toNat_ofInt]
  omega

theorem br_completes (hp : s.pend = none) (hr : s.rpts = .off) : exec (.br a) s = .next (jump a s) := by
  show toOutcome _ = _
  simp only [guardControl_pass hp hr, ok_bind, toOutcome_ok]

theorem brd_completes (hp : s.pend = none) (hr : s.rpts = .off) : exec (.brd a) s = .next (delayedJump a s) := by
  show toOutcome _ = _
  simp only [guardControl_pass hp hr, ok_bind, toOutcome_ok]

theorem bcond_completes (hp : s.pend = none) (hr : s.rpts = .off) (ht : target s.params.branchBase.bcond x s = .ok a) :
    exec (.bcond c x) s = .next (if condTrue c s.st then jump a s else sequential s) := by
  show toOutcome _ = _
  simp only [guardControl_pass hp hr, ht, ok_bind, toOutcome_ok]

theorem bcondD_completes (hp : s.pend = none) (hr : s.rpts = .off) (ht : target s.params.branchBase.bcondD x s = .ok a) :
    exec (.bcondD c x) s = .next (if condTrue c s.st then delayedJump a s else sequential s) := by
  show toOutcome _ = _
  simp only [guardControl_pass hp hr, ht, ok_bind, toOutcome_ok]

/-- Settles O40: the sum of a displacement target is one of integers modulo 2^24, and each branch passes its check. -/
theorem branchesAndTheirTargets : Obligations.BranchesAndTheirTargets := by
  unfold Obligations.BranchesAndTheirTargets
  refine ⟨fun k r s v hv => target_reg.mpr ⟨v, hv, rfl⟩, fun k d s => ⟨_, target_disp k d s, toNat_target s.pc k d⟩, rfl,
    fun s hp hr => ⟨fun a => br_completes hp hr, fun a => brd_completes hp hr, fun c x t => bcond_completes hp hr,
      fun c x t => bcondD_completes hp hr⟩⟩

/-! ### Decrement and branch -/

theorem high8_mask : ∀ i : Fin 32, (0xFF000000#32).getLsbD i.val = decide (24 ≤ i.val) := by decide

theorem low24_mask : ∀ i : Fin 32, (0x00FFFFFF#32).getLsbD i.val = decide (i.val < 24) := by decide

/-- The ARAU of 24 bits keeps the 8 MSBs (R199; log 25). -/
theorem arauWrite_eq (w : ArauWidth) (a v : Word) :
    arauWrite w a v = if w = .w32 then v else (a &&& 0xFF000000#32) ||| (v &&& 0x00FFFFFF#32) := by
  cases w with
  | w32 => rfl
  | w24 =>
    rw [if_neg (by decide)]
    apply BitVec.eq_of_getLsbD_eq
    intro i hi
    have hhigh := high8_mask ⟨i, hi⟩
    have hlow := low24_mask ⟨i, hi⟩
    simp only at hhigh hlow
    rw [arauWrite, BitVec.getLsbD_append, BitVec.getLsbD_or, BitVec.getLsbD_and, BitVec.getLsbD_and,
      hhigh, hlow]
    by_cases h : i < 24
    · simp [h]
    · have hge : 24 ≤ i := by omega
      have hlt : i - 24 < 8 := by omega
      simp [h, hge, hlt]

theorem notNegative_eq (w : ArauWidth) (v : Word) :
    notNegative w v = if w = .w32 then decide (0 ≤ v.toInt) else decide (0 ≤ (v.setWidth 24).toInt) := by
  cases w with
  | w32 =>
    rw [if_pos rfl, notNegative, BitVec.msb_eq_toInt, ← decide_not, decide_eq_decide]
    omega
  | w24 =>
    have hbit : v.getLsbD 23 = (v.setWidth 24).msb := by simp [BitVec.msb_eq_getLsbD_last]
    rw [if_neg (by decide), notNegative, hbit, BitVec.msb_eq_toInt, ← decide_not, decide_eq_decide]
    omega

theorem dbcond_completes {n : ARn} (hp : s.pend = none) (hr : s.rpts = .off)
    (ht : target s.params.branchBase.dbcond x s = .ok a) :
    let new := decremented s.params.arauWidth (s.arn n)
    exec (.dbcond c n x) s = .next (if condTrue c s.st && notNegative s.params.arauWidth new then jump a (s.setAr n new)
      else sequential (s.setAr n new)) := by
  show toOutcome _ = _
  simp only [guardControl_pass hp hr, ht, ok_bind, toOutcome_ok]

theorem dbcondD_completes {n : ARn} (hp : s.pend = none) (hr : s.rpts = .off)
    (ht : target s.params.branchBase.dbcondD x s = .ok a) :
    let new := decremented s.params.arauWidth (s.arn n)
    exec (.dbcondD c n x) s = .next (if condTrue c s.st && notNegative s.params.arauWidth new then
      delayedJump a (s.setAr n new) else sequential (s.setAr n new)) := by
  show toOutcome _ = _
  simp only [guardControl_pass hp hr, ht, ok_bind, toOutcome_ok]

/-- Settles O41: the decrement and its sign test in the width of the ARAU. -/
theorem decrementAndBranch : Obligations.DecrementAndBranch := by
  unfold Obligations.DecrementAndBranch
  intro s n hp hr
  refine ⟨fun c x t ht => ?_, fun c x t ht => ?_⟩
  · rw [← arauWrite_eq, ← notNegative_eq]
    exact dbcond_completes hp hr ht
  · rw [← arauWrite_eq, ← notNegative_eq]
    exact dbcondD_completes hp hr ht

/-! ### Calls, returns and traps -/

theorem call_completes (hp : s.pend = none) (hr : s.rpts = .off) (hw : s.writable (low24 (s.sp + 1))) :
    exec (.call a) s = .next { s.store (low24 (s.sp + 1)) (zext32 (s.pc + 1)) with sp := s.sp + 1, pc := a } := by
  show toOutcome _ = _
  simp only [guardControl_pass hp hr, push_completes hw, ok_bind, toOutcome_ok]
  rfl

theorem callcond_taken (hp : s.pend = none) (hr : s.rpts = .off) (ht : target s.params.branchBase.callcond x s = .ok a)
    (hc : condTrue c s.st = true) (hw : s.writable (low24 (s.sp + 1))) :
    exec (.callcond c x) s =
      .next { s.store (low24 (s.sp + 1)) (zext32 (s.pc + 1)) with sp := s.sp + 1, pc := a } := by
  show toOutcome _ = _
  simp only [guardControl_pass hp hr, ht, hc, push_completes hw, ok_bind, if_true, toOutcome_ok]
  rfl

theorem callcond_passed (hp : s.pend = none) (hr : s.rpts = .off) (ht : target s.params.branchBase.callcond x s = .ok a)
    (hc : condTrue c s.st = false) : exec (.callcond c x) s = .next (sequential s) := by
  show toOutcome _ = _
  simp only [guardControl_pass hp hr, ht, hc, ok_bind, Bool.false_eq_true, if_false, toOutcome_ok]

theorem retscond_taken {v : Word} (hp : s.pend = none) (hr : s.rpts = .off)
    (hv : memRead (low24 s.sp) s = .ok (v, s1)) (hc : condTrue c s.st = true) :
    exec (.retscond c) s = .next { s1 with sp := s.sp - 1, pc := low24 v } := by
  have hpop : pop s = .ok (v, s1.setSp (s.sp - 1)) := pop_ok.mpr ⟨s1, hv, rfl⟩
  show toOutcome _ = _
  simp only [guardControl_pass hp hr, hc, returnTo, hpop, ok_bind, if_true, toOutcome_ok]
  rfl

theorem retscond_passed (hp : s.pend = none) (hr : s.rpts = .off) (hc : condTrue c s.st = false) :
    exec (.retscond c) s = .next (sequential s) := by
  show toOutcome _ = _
  simp only [guardControl_pass hp hr, hc, ok_bind, Bool.false_eq_true, if_false, toOutcome_ok]

theorem reticond_taken {v : Word} (hp : s.pend = none) (hr : s.rpts = .off)
    (hv : memRead (low24 s.sp) s = .ok (v, s1)) (hc : condTrue c s.st = true) :
    exec (.reticond c) s = .next { s1 with sp := s.sp - 1, pc := low24 v, st := { s.st with gie := true } } := by
  have hpop : pop s = .ok (v, s1.setSp (s.sp - 1)) := pop_ok.mpr ⟨s1, hv, rfl⟩
  have hst : s1.st = s.st := by
    obtain ⟨d, rfl⟩ := memRead_frame hv
    rfl
  show toOutcome _ = _
  simp only [guardControl_pass hp hr, hc, returnFrom, hpop, ok_bind, if_true, toOutcome_ok, State.setSp_st, hst]
  rfl

theorem reticond_passed (hp : s.pend = none) (hr : s.rpts = .off) (hc : condTrue c s.st = false) :
    exec (.reticond c) s = .next (sequential s) := by
  show toOutcome _ = _
  simp only [guardControl_pass hp hr, hc, ok_bind, Bool.false_eq_true, if_false, toOutcome_ok]

/-- Settles O44: each call and return outside delay slots and RPTS. -/
theorem callsAndReturns : Obligations.CallsAndReturns := by
  unfold Obligations.CallsAndReturns
  intro s hp hr
  exact ⟨fun a => call_completes hp hr,
    fun c x t ht => ⟨fun hc hw => callcond_taken hp hr ht hc hw, fun hc => callcond_passed hp hr ht hc⟩,
    fun c v s1 hv hc => retscond_taken hp hr hv hc, fun c hc => retscond_passed hp hr hc⟩

/-- Taking an exception after a read that used up draws at most. -/
theorem enter_completes {ret : Addr} (h : ∃ d, s1 = { s with draws := d }) (hw : s.writable (low24 (s.sp + 1))) :
    enter ret a s1 = .ok { s1.store (low24 (s.sp + 1)) (zext32 ret) with
      sp := s.sp + 1, st := { s.st with gie := false }, pc := a } := by
  obtain ⟨d, rfl⟩ := h
  exact enter_ok.mpr ⟨hw.1, hw.2, rfl⟩

theorem trapcond_taken {n : Fin 32} (hp : s.pend = none) (hr : s.rpts = .off) (ht : trapVector n.val s = .ok (a, s1))
    (hc : condTrue c s.st = true) (hw : s.writable (low24 (s.sp + 1))) :
    exec (.trapcond c n) s = .next { s1.store (low24 (s.sp + 1)) (zext32 (s.pc + 1)) with
      sp := s.sp + 1, st := { s.st with gie := false }, pc := a } := by
  obtain ⟨htrap, hdraws⟩ := trapVector_frame ht
  show toOutcome _ = _
  simp only [guardControl_pass hp hr, htrap, need_true, hc, ht, enter_completes hdraws hw, ok_bind, if_true, toOutcome_ok]

theorem trapcond_passed {n : Fin 32} (hp : s.pend = none) (hr : s.rpts = .off) (ht : s.hasTrap n.val = true)
    (hc : condTrue c s.st = false) : exec (.trapcond c n) s = .next (sequential s) := by
  show toOutcome _ = _
  simp only [guardControl_pass hp hr, ht, need_true, hc, ok_bind, Bool.false_eq_true, if_false, toOutcome_ok]

theorem trapcond_refused {n : Fin 32} (hp : s.pend = none) (hr : s.rpts = .off) (ht : s.hasTrap n.val = false) :
    exec (.trapcond c n) s = .refused .trapNumber := by
  show toOutcome _ = _
  simp only [guardControl_pass hp hr, ht, need_false, ok_bind, refuse_bind, toOutcome_refuse]

theorem hasTrap_of_lt {n : Nat} (h : s.params.trapMax < n) : s.hasTrap n = false := by
  simp [State.hasTrap, h]

theorem hasTrap_cells {n : Nat} {base : Addr} (h : n ≤ s.params.trapMax) (ht : s.params.trapTable = .cells base) :
    s.hasTrap n = true := by
  simp [State.hasTrap, h, ht]

theorem hasTrap_fixed {n : Nat} {l : List Addr} (h : n ≤ s.params.trapMax) (ht : s.params.trapTable = .fixed l) :
    s.hasTrap n = decide (n < l.length) := by
  simp [State.hasTrap, h, ht]

theorem trapVector_cells {n : Nat} {base : Addr} {v : Word} (h : n ≤ s.params.trapMax)
    (ht : s.params.trapTable = .cells base) (hv : memRead (base + BitVec.ofNat 24 n) s = .ok (v, s1)) :
    trapVector n s = .ok (low24 v, s1) := by
  simp only [trapVector, hasTrap_cells h ht, need_true, ok_bind, ht, hv]

theorem trapVector_fixed {n : Nat} {l : List Addr} (h : n ≤ s.params.trapMax) (ht : s.params.trapTable = .fixed l)
    (ha : l[n]? = some a) : trapVector n s = .ok (a, s) := by
  have hlt : n < l.length := (List.getElem?_eq_some_iff.mp ha).1
  have hget : l.getD n 0#24 = a := by rw [List.getD_eq_getElem?_getD, ha]; rfl
  simp only [trapVector, hasTrap_fixed h ht, hlt, decide_true, need_true, ok_bind, ht, hget]

/-- With the parameters of reset trap N has the word at 20h + N, in external memory (log 7, 8). -/
theorem trapVector_reset (n : Fin 32) (h : s.params = State.reset.params) :
    trapVector n.val s = .ok (low24 (s.mem.read (0x20 + n.val)), s) := by
  have haddr : (0x20#24 + BitVec.ofNat 24 n.val).toNat = 0x20 + n.val := by
    rw [BitVec.toNat_add, BitVec.toNat_ofNat, BitVec.toNat_ofNat]
    omega
  have hkind : s.kindAt (0x20#24 + BitVec.ofNat 24 n.val) = .externalStrb := by
    rw [State.kindAt, h, haddr]
    exact if_pos ⟨Nat.zero_le _, show 0x20 + n.val < 0 + 0x800000 by omega⟩
  have hread := memRead_plain (a := 0x20#24 + BitVec.ofNat 24 n.val) (s := s) (by simp [hkind]) (by simp [hkind])
  rw [haddr] at hread
  exact trapVector_cells (by rw [h]; exact Nat.le_of_lt_succ n.isLt) (by rw [h]; rfl) hread

/-- Settles O45: the trap and its return, and the vectors of each kind of table. -/
theorem trapsAndTheirReturn : Obligations.TrapsAndTheirReturn := by
  unfold Obligations.TrapsAndTheirReturn
  refine ⟨fun s hp hr => ⟨fun c n t s1 ht hc hw => trapcond_taken hp hr ht hc hw,
      fun c n ht hc => trapcond_passed hp hr ht hc, fun c n ht => trapcond_refused hp hr ht,
      fun c v s1 hv hc => reticond_taken hp hr hv hc, fun c hc => reticond_passed hp hr hc⟩,
    fun s n => ⟨hasTrap_of_lt, fun h base ht => ⟨hasTrap_cells h ht, fun w s1 hv => trapVector_cells h ht hv⟩,
      fun h l ht => ⟨fun a ha => ⟨?_, trapVector_fixed h ht ha⟩, fun hnone => ?_⟩⟩,
    fun s n => trapVector_reset n⟩
  · rw [hasTrap_fixed h ht, decide_eq_true_eq]
    exact (List.getElem?_eq_some_iff.mp ha).1
  · rw [hasTrap_fixed h ht, decide_eq_false_iff_not, not_lt]
    exact List.getElem?_eq_none_iff.mp hnone

end Sys2Proof.Machine
end

section
/-! Repeats, waiting, low power, what may not stand in a delay slot, and what follows an instruction. -/
namespace Sys2Proof.Machine

variable {i : Instr} {s s1 t : State} {a : Addr}

/-! ### Repeats -/

theorem insideBlock_iff (s : State) : s.insideBlock = true ↔
    s.st.rm = true ∧ (low24 s.rs).toNat ≤ s.pc.toNat ∧ s.pc.toNat ≤ (low24 s.re).toNat := by
  simp [State.insideBlock, and_assoc]

theorem countAllowed_iff {x : Src} {v : Word} (hv : srcInt .unsigned x s = .ok (v, s1)) :
    countAllowed x v = true ↔ v.toNat < 2 ^ 31 ∧ ∀ k, x = .imm k → k.toNat < 2 ^ 15 := by
  cases x with
  | imm k =>
    cases hv
    have hk : k.msb = false ↔ k.toNat < 2 ^ 15 := msb_eq_false_iff_toNat k
    have hlt : k.toNat % 4294967296 < 2147483648 := by
      have := k.isLt
      omega
    simp [countAllowed, widenImm, hk, hlt]
  | reg | mem =>
    have hmsb : v.msb = false ↔ v.toNat < 2 ^ 31 := msb_eq_false_iff_toNat v
    simp [countAllowed, hmsb]

section guarded

variable (hp : s.pend = none) (hr : s.rpts = .off)
include hp hr

theorem rptb_nested (h : s.insideBlock = true) : exec (.rptb a) s = .refused .nestedRepeat := by
  show toOutcome _ = _
  simp only [guardControl_pass hp hr, h, Bool.not_true, need_false, ok_bind, refuse_bind, toOutcome_refuse]

theorem rpts_nested (h : s.insideBlock = true) (x : Src) : exec (.rpts x) s = .refused .nestedRepeat := by
  show toOutcome _ = _
  simp only [guardControl_pass hp hr, h, Bool.not_true, need_false, ok_bind, refuse_bind, toOutcome_refuse]

theorem rptb_count (h : s.insideBlock = false) (hc : s.rc.msb = true) : exec (.rptb a) s = .refused .repeatCount := by
  show toOutcome _ = _
  simp only [guardControl_pass hp hr, h, hc, Bool.not_true, Bool.not_false, need_true, need_false, ok_bind, refuse_bind,
    toOutcome_refuse]

theorem rptb_empty (h : s.insideBlock = false) (hc : s.rc.msb = false) (ha : a.toNat < (s.pc + 1).toNat) :
    exec (.rptb a) s = .refused .emptyRepeatBlock := by
  have hempty : decide ((s.pc + 1).toNat ≤ a.toNat) = false := decide_eq_false (by omega)
  show toOutcome _ = _
  simp only [guardControl_pass hp hr, h, hc, hempty, Bool.not_false, need_true, need_false, ok_bind, refuse_bind,
    toOutcome_refuse]

theorem rptb_completes (h : s.insideBlock = false) (hc : s.rc.msb = false) (ha : (s.pc + 1).toNat ≤ a.toNat) :
    exec (.rptb a) s = .next { s with re := zext32 a, rs := zext32 (s.pc + 1), st := { s.st with rm := true },
                                      pc := s.pc + 1 } := by
  show toOutcome _ = _
  simp only [guardControl_pass hp hr, h, hc, decide_eq_true ha, Bool.not_false, need_true, ok_bind, toOutcome_ok]

theorem rpts_completes {x : Src} {v : Word} (h : s.insideBlock = false) (hv : srcInt .unsigned x s = .ok (v, s1))
    (hc : countAllowed x v = true) :
    exec (.rpts x) s = .next { s1 with rc := v, rs := zext32 (s.pc + 1), re := zext32 (s.pc + 1),
                                       st := { s1.st with rm := true }, pc := s.pc + 1, rpts := .armed } := by
  show toOutcome _ = _
  simp only [guardControl_pass hp hr, h, hv, hc, Bool.not_false, need_true, ok_bind, toOutcome_ok]

theorem rpts_count {x : Src} {v : Word} (h : s.insideBlock = false) (hv : srcInt .unsigned x s = .ok (v, s1))
    (hc : countAllowed x v = false) : exec (.rpts x) s = .refused .repeatCount := by
  show toOutcome _ = _
  simp only [guardControl_pass hp hr, h, hv, hc, Bool.not_false, need_true, need_false, ok_bind, refuse_bind,
    toOutcome_refuse]

end guarded

/-- Settles O43: the checks of RPTB and RPTS in their order. -/
theorem repeatInstructions : Obligations.RepeatInstructions := by
  unfold Obligations.RepeatInstructions
  intro s hp hr
  have hrc : s.rc.msb = false ↔ s.rc.toNat < 2 ^ 31 := msb_eq_false_iff_toNat s.rc
  simp only [← insideBlock_iff, Bool.not_eq_true]
  refine ⟨fun h => ⟨fun a => rptb_nested hp hr h, rpts_nested hp hr h⟩,
    fun h a => ⟨fun hc ha => rptb_completes hp hr h (hrc.mpr hc) ha, fun hc => rptb_count hp hr h ?_,
      fun hc ha => rptb_empty hp hr h (hrc.mpr hc) ha⟩,
    fun h x v s1 hv => ⟨fun hc hk => rpts_completes hp hr h hv ((countAllowed_iff hv).mpr ⟨hc, hk⟩),
      fun hc => rpts_count hp hr h hv ?_⟩⟩
  · rw [← Bool.not_eq_false, hrc]
    omega
  · rw [← Bool.not_eq_true, countAllowed_iff hv]
    rintro ⟨hlt, himm⟩
    rcases hc with hc | ⟨k, hk, hc⟩
    · omega
    · have := himm k hk
      omega

/-! ### A trap and its return -/

theorem low24_zext32 (a : Addr) : low24 (zext32 a) = a := by
  simp [low24, zext32]

theorem trapcond_next {n : Fin 32} (h : exec (.trapcond .u n) s = .next t) :
    (s.pend = none ∧ s.rpts = .off) ∧ s.writable (low24 (s.sp + 1)) ∧ ∃ d v,
      t = { ({ s with draws := d } : State).store (low24 (s.sp + 1)) (zext32 (s.pc + 1)) with
        sp := s.sp + 1, st := { s.st with gie := false }, pc := v } := by
  obtain ⟨hc, h⟩ := guardControl_bind_ok.mp (toOutcome_next.mp h)
  obtain ⟨-, h⟩ := need_bind_ok.mp h
  obtain ⟨⟨v, s1⟩, hv, h⟩ := bind_ok.mp h
  obtain ⟨-, d, rfl⟩ := trapVector_frame hv
  obtain ⟨hk, hp, rfl⟩ := enter_ok.mp h
  exact ⟨hc, ⟨hk, hp⟩, d, v, rfl⟩

/-- Settles O46: the return address is read back from the stack slot that the trap wrote. -/
theorem trapAndReturnRestore : Obligations.TrapAndReturnRestore := by
  unfold Obligations.TrapAndReturnRestore
  intro s t n h hk
  obtain ⟨⟨hp, hr⟩, hw, d, v, rfl⟩ := trapcond_next h
  have hread := memRead_plain (s := { ({ s with draws := d } : State).store (low24 (s.sp + 1)) (zext32 (s.pc + 1)) with
    sp := s.sp + 1, st := { s.st with gie := false }, pc := v }) (a := low24 (s.sp + 1)) hw.1 hk
  refine ⟨_, reticond_taken hp hr hread rfl, ?_, rfl, fun r hr => ?_, fun a ha => ?_⟩
  · exact (congrArg low24 (Memory.read_write_self _ _ _)).trans (low24_zext32 _)
  · cases r with
    | st => exact absurd rfl hr
    | sp =>
      show (s.sp + 1 - 1).setWidth 40 = s.sp.setWidth 40
      rw [BitVec.add_sub_cancel]
    | r | ar | dp | ir0 | ir1 | bk | ie | ifr | iof | rs | re | rc => rfl
  · exact Memory.read_write_of_ne _ _ fun h => ha (BitVec.eq_of_toNat_eq h).symm

/-! ### What may not stand in a delay slot or under RPTS -/

theorem controls_next (hi : controls i = true) (h : exec i s = .next t) : s.pend = none ∧ s.rpts = .off := by
  cases i with
  | bcond | bcondD | br | brd | call | callcond | dbcond | dbcondD | reticond | retscond | trapcond | rptb | rpts | sigi
  | idle => exact (guardControl_bind_ok.mp (toOutcome_next.mp h)).1
  | idle2 =>
    obtain ⟨-, h⟩ := need_bind_ok.mp (toOutcome_next.mp h)
    exact (guardControl_bind_ok.mp h).1
  | swi => cases h
  | absi | addc | addi | and | andn | ash | cmpi | ldi | lsh | mpyi | negb | negi | not | or | subb | subc | subi | subrb
  | subri | tstb | xor | absf | addf | cmpf | fix | float | lde | ldf | ldm | mpyf | negf | norm | rnd | subf | subrf | stf
  | sti | pop | popf | push | pushf | ldp | ldfi | ldii | stfi | stii | rol | rolc | ror | rorc | nop | maxspeed | lopower
  | iack | addc3 | addf3 | addi3 | and3 | andn3 | ash3 | cmpf3 | cmpi3 | lsh3 | mpyf3 | mpyi3 | or3 | subb3 | subf3 | subi3
  | tstb3 | xor3 | ldfcond | ldicond | mpyf3Addf3 | mpyf3Subf3 | mpyi3Addi3 | mpyi3Subi3 | stfStf | stiSti | ldfLdf
  | ldiLdi | absfStf | absiSti | addf3Stf | addi3Sti | and3Sti | ash3Sti | fixSti | floatStf | ldfStf | ldiSti | lsh3Sti
  | mpyf3Stf | mpyi3Sti | negfStf | negiSti | notSti | or3Sti | subf3Stf | subi3Sti | xor3Sti => cases hi

theorem clock_next (hi : i = .lopower ∨ i = .maxspeed) (h : exec i s = .next t) : s.rpts = .off := by
  rcases hi with rfl | rfl <;>
  · obtain ⟨-, h⟩ := need_bind_ok.mp (toOutcome_next.mp h)
    obtain ⟨hoff, -⟩ := need_bind_ok.mp h
    simpa using hoff

/-- Settles O47: each of these instructions completes only outside delay slots and RPTS, and the step refuses an
instruction at RE in a delay slot before its fetch. -/
theorem refusedInDelaySlotsAndUnderRpts : Obligations.RefusedInDelaySlotsAndUnderRpts := by
  unfold Obligations.RefusedInDelaySlotsAndUnderRpts
  refine ⟨fun i s hi h => ?_, fun a s h => ?_, fun i s hi h => ?_, fun s hw hp he => ?_⟩
  · exact refused_of_not_next fun t ht => h.elim (fun h => h (controls_next hi ht).1) fun h => h (controls_next hi ht).2
  · have hguard : guardControl s = refuse .inDelaySlot := by
      cases hs : s.pend with
      | none => exact absurd hs h
      | some p => simp [guardControl, hs]
    exact toOutcome_bind_refused hguard _
  · exact refused_of_not_next fun t ht => h (clock_next hi ht)
  · obtain ⟨p, hp⟩ := Option.ne_none_iff_exists'.mp hp
    have htake : (sampleInputs s).takeable = none := by simp [State.takeable, hp]
    simp [step, advance, hw, runNext, htake, decideInterrupt, fetchExec, hp, he]

/-! ### NOP, IACK, waiting and low power -/

theorem waitForInterrupt_completes {w : Waiting} (hp : s.pend = none) (hr : s.rpts = .off) (hg : s.st.gie = true) :
    waitForInterrupt w s = .ok { s with pc := s.pc + 1, waiting := some w } := by
  simp only [waitForInterrupt, guardControl_pass hp hr, hg, need_true, ok_bind]

theorem waitForInterrupt_refused {w : Waiting} (hp : s.pend = none) (hr : s.rpts = .off) (hg : s.st.gie = false) :
    waitForInterrupt w s = refuse .idleWithoutGie := by
  simp only [waitForInterrupt, guardControl_pass hp hr, hg, need_false, ok_bind, refuse_bind]

/-- An instruction of the LC31 on that member (R384 to R386). -/
theorem lowPower_present (h : s.params.lc31LowPower = true) (x : Res State) :
    toOutcome (need s.params.lc31LowPower .lowPowerAbsent >>= fun _ => x) = toOutcome x := by
  rw [h]
  rfl

theorem lowPower_absent (h : s.params.lc31LowPower = false) (x : Res State) :
    toOutcome (need s.params.lc31LowPower .lowPowerAbsent >>= fun _ => x) = .refused .lowPowerAbsent := by
  rw [h]
  rfl

theorem guardRepeated_pass (hr : s.rpts = .off) : guardRepeated s = .ok () := by simp [guardRepeated, hr]

/-- A read sees the kind of the address, memory and the draws alone. -/
theorem memRead_of_frame {f : State → State} {w : Word} (hk : (f s).kindAt a = s.kindAt a) (hm : (f s).mem = s.mem)
    (hd : (f s).draws = s.draws) (ht : (f s).tick = f s.tick) (h : memRead a s = .ok (w, s1)) :
    memRead a (f s) = .ok (w, f s1) := by
  obtain ⟨hmapped, ⟨hper, rfl, rfl⟩ | ⟨hper, rfl, rfl⟩⟩ := memRead_cases h
  · have hk' : (f s).kindAt a = .peripheral := hk.trans hper
    simp [memRead, hk', drawWord, hd, ht]
  · rw [memRead_plain (hk ▸ hmapped) (hk ▸ hper), hm]

theorem iack_completes {s2 : State} {m : MemOp} {w : Word} (he : ea m s = .ok (a, s1))
    (hv : memRead a s1 = .ok (w, s2)) :
    exec (.iack m) s = .next (sequential { s2 with iack := true, trace := .iack true :: .iack false :: s.trace }) := by
  have hread := memRead_of_frame (f := fun u => u.driveIack false) rfl rfl rfl rfl hv
  have htrace : s2.trace = s.trace := by
    obtain ⟨ar, d, rfl, -⟩ := ea_frame he
    obtain ⟨d', rfl⟩ := memRead_frame hv
    rfl
  show toOutcome _ = _
  simp only [he, hread, ok_bind, toOutcome_ok, ← htrace]
  rfl

/-- Settles O49: the operand of NOP and IACK, the checks of IDLE, and those of the low-power unit. -/
theorem nopIackIdleAndLowPower : Obligations.NopIackIdleAndLowPower := by
  unfold Obligations.NopIackIdleAndLowPower
  refine ⟨fun s => rfl, fun s s1 i a hi => ?_, fun s s1 s2 m a w he hv => iack_completes he hv,
    fun s hr => ⟨fun hp hg => ?_, fun hp hg => ?_, fun hl => ⟨fun hp hg => ?_, fun hp hg => ?_, ?_, ?_⟩,
      fun hl => ⟨lowPower_absent hl _, lowPower_absent hl _, lowPower_absent hl _⟩⟩⟩
  · show toOutcome _ = _
    simp only [hi, ok_bind, toOutcome_ok]
  · exact toOutcome_next.mpr (waitForInterrupt_completes hp hr hg)
  · exact refused_of_eq (waitForInterrupt_refused hp hr hg)
  · exact (lowPower_present hl _).trans (toOutcome_next.mpr (waitForInterrupt_completes hp hr hg))
  · exact (lowPower_present hl _).trans (refused_of_eq (waitForInterrupt_refused hp hr hg))
  · exact (lowPower_present hl _).trans (by rw [guardRepeated_pass hr]; rfl)
  · exact (lowPower_present hl _).trans (by rw [guardRepeated_pass hr]; rfl)

end Sys2Proof.Machine
end

section
/-! The state after reset, words of the formats, and what follows an instruction. -/
namespace Sys2Proof.Machine

variable {s : State} {t : Addr}

/-- Settles O1: each word is decoded field by field. -/
theorem decodesTheWordsOfTheFormats : Obligations.DecodesTheWordsOfTheFormats := by
  unfold Obligations.DecodesTheWordsOfTheFormats
  exact ⟨rfl, rfl, rfl, rfl, rfl, rfl, rfl, rfl, rfl, rfl⟩

/-- Settles O6: the fields of the state after reset. -/
theorem stateAfterReset : Obligations.StateAfterReset := by
  unfold Obligations.StateAfterReset
  refine ⟨rfl, rfl, rfl, rfl, rfl, fun r => ?_, rfl, rfl, rfl, rfl, rfl, rfl, rfl⟩
  cases r with
  | r n => exact Vector.getElem_replicate n.isLt
  | ar n => exact congrArg (BitVec.setWidth 40) (Vector.getElem_replicate n.isLt)
  | dp | ir0 | ir1 | bk | sp | st | ie | ifr | iof | rs | re | rc => rfl

/-- Settles O7: the state after reset holds nothing that the invariant restricts. -/
theorem resetMeetsTheInvariant : Obligations.ResetMeetsTheInvariant := by
  unfold Obligations.ResetMeetsTheInvariant
  exact ⟨rfl, rfl, rfl, rfl, rfl, fun a ha => absurd ha List.not_mem_nil, fun h => absurd h (by decide)⟩

/-! ### What follows an instruction -/

theorem atRepeatEnd_iff (s : State) : s.atRepeatEnd = true ↔ s.st.rm = true ∧ s.pc = low24 s.re := by
  simp [State.atRepeatEnd]

/-- With no block repeated, pc and the pending branch go on alone. -/
theorem sequential_not_repeating (hrm : s.st.rm = false) :
    (sequential s).pc = s.following ∧ (sequential s).pend = Pending.advance s.pend ∧ (sequential s).st.rm = false := by
  rw [sequential_of_not_end (atRepeatEnd_eq_false_of_rm hrm)]
  exact ⟨rfl, rfl, hrm⟩

theorem following_of_some {k : Slots} (hp : s.pend = some ⟨t, k⟩) :
    s.following = if k = .one then t else s.pc + 1 := by
  cases k <;> simp [State.following, hp]

theorem sequential_again (he : s.atRepeatEnd = true) (hrc : s.rc ≠ 0#32) :
    sequential s = { s with rc := s.rc - 1, pc := low24 s.rs, pend := Pending.advance s.pend,
                            rpts := if low24 s.rs = s.pc then s.rpts else .off } := by
  simp [sequential, he, hrc]

theorem sequential_last (he : s.atRepeatEnd = true) (hrc : s.rc = 0#32) :
    sequential s = { endRepeat s with pc := s.following, pend := Pending.advance s.pend } := by
  simp [sequential, he, hrc]

theorem following_of_none (hp : s.pend = none) : s.following = s.pc + 1 := by simp [State.following, hp]

theorem endRepeat_rc (s : State) : (endRepeat s).rc = 0#32 ∨ (endRepeat s).rc = 0xFFFFFFFF#32 := by
  have hrc : (endRepeat s).rc = if Config.freeBit s.draws then 0xFFFFFFFF#32 else 0#32 := rfl
  rw [hrc]
  split
  · exact .inr rfl
  · exact .inl rfl

/-- An instruction that repeats alone: RM = 1, RS and RE are its own address, and no delayed branch is pending. -/
structure RepeatsAlone (s : State) : Prop where
  pend : s.pend = none
  rm : s.st.rm = true
  start : low24 s.rs = s.pc
  stop : low24 s.re = s.pc

theorem RepeatsAlone.atEnd (h : RepeatsAlone s) : s.atRepeatEnd = true := (atRepeatEnd_iff s).mpr ⟨h.rm, h.stop.symm⟩

/-- One more pass. -/
theorem RepeatsAlone.step (h : RepeatsAlone s) (hrc : s.rc ≠ 0#32) :
    RepeatsAlone (sequential s) ∧ (sequential s).pc = s.pc ∧ (sequential s).st = s.st ∧ (sequential s).rc = s.rc - 1 := by
  rw [sequential_again h.atEnd hrc, h.pend]
  exact ⟨⟨rfl, h.rm, rfl, h.stop.trans h.start.symm⟩, h.start, rfl, rfl⟩

/-- RC passes stay at the instruction (R376, R377). -/
theorem RepeatsAlone.iterate (h : RepeatsAlone s) {k : Nat} (hk : k ≤ s.rc.toNat) :
    RepeatsAlone (sequential^[k] s) ∧ (sequential^[k] s).pc = s.pc ∧ (sequential^[k] s).st = s.st ∧
      (sequential^[k] s).rc.toNat = s.rc.toNat - k := by
  induction k with
  | zero => exact ⟨h, rfl, rfl, rfl⟩
  | succ k ih =>
    obtain ⟨halone, hpc, hst, hrc⟩ := ih (by omega)
    have hne : (sequential^[k] s).rc ≠ 0#32 := fun h0 => by
      rw [h0] at hrc
      simp at hrc
      omega
    obtain ⟨halone', hpc', hst', hrc'⟩ := halone.step hne
    rw [Function.iterate_succ_apply']
    refine ⟨halone', hpc'.trans hpc, hst'.trans hst, ?_⟩
    rw [hrc', BitVec.toNat_sub_of_le (by
      rw [BitVec.le_def, hrc]
      show 1 ≤ _
      omega), hrc]
    show s.rc.toNat - k - 1 = _
    omega

/-- Settles O42: the three cases of the end of an instruction, iterated for a delayed branch and for a repeat. -/
theorem whatFollowsAnInstruction : Obligations.WhatFollowsAnInstruction := by
  unfold Obligations.WhatFollowsAnInstruction
  refine ⟨fun s t hp hrm => ?_, fun s hp => ⟨fun h => ?_, fun hrm hpc hrc => ?_, fun hrm hpc hrc => ?_⟩,
    fun s hp hrm hrs hre => ?_⟩
  · obtain ⟨hpc1, hp1, hrm1⟩ := sequential_not_repeating hrm
    obtain ⟨hpc2, hp2, hrm2⟩ := sequential_not_repeating hrm1
    obtain ⟨hpc3, hp3, -⟩ := sequential_not_repeating hrm2
    rw [following_of_some hp, if_neg (by decide)] at hpc1
    rw [hp] at hp1
    rw [following_of_some hp1, if_neg (by decide), hpc1, BitVec.add_assoc] at hpc2
    rw [hp1] at hp2
    rw [following_of_some hp2, if_pos rfl] at hpc3
    rw [hp2] at hp3
    exact ⟨hpc1, hpc2, hpc3, hp3⟩
  · have hend : s.atRepeatEnd = false := by
      rw [← Bool.not_eq_true, atRepeatEnd_iff]
      rintro ⟨hrm, hpc⟩
      rcases h with h | h
      · simp [h] at hrm
      · exact h hpc
    rw [sequential_plain hend hp]
    exact ⟨rfl, rfl, rfl⟩
  · rw [sequential_again ((atRepeatEnd_iff s).mpr ⟨hrm, hpc⟩) hrc]
    exact ⟨rfl, rfl, rfl⟩
  · rw [sequential_last ((atRepeatEnd_iff s).mpr ⟨hrm, hpc⟩) hrc, following_of_none hp]
    exact ⟨rfl, endRepeat_rc s, rfl⟩
  · have halone : RepeatsAlone s := ⟨hp, hrm, hrs, hre⟩
    refine ⟨fun k hk => (halone.iterate hk).2, ?_⟩
    obtain ⟨hlast, hpc, hst, hrc⟩ := halone.iterate le_rfl
    have hzero : (sequential^[s.rc.toNat] s).rc = 0#32 := BitVec.eq_of_toNat_eq (by rw [hrc]; simp)
    rw [Function.iterate_succ_apply', sequential_last hlast.atEnd hzero, following_of_none hlast.pend]
    exact ⟨congrArg (· + 1) hpc, rfl⟩

end Sys2Proof.Machine
end

section
/-! Addresses: the indirect forms, circular sums and reverse-carry sums. -/
namespace Sys2Proof.Machine

variable {s : State} {bk a d : Word}

/-- Settles O17: the form of the operand decides the address and the new ARn. -/
theorem indirectForms : Obligations.IndirectForms := by
  unfold Obligations.IndirectForms
  refine ⟨fun s k => ⟨?_, rfl, rfl⟩, fun s n d => ?_⟩
  · have := k.isLt
    rw [dispValue, BitVec.toNat_setWidth]
    omega
  · simp only [← arauWrite_eq]
    refine ⟨rfl, rfl, rfl, rfl, rfl, rfl, rfl, fun v hv => ?_, fun v hv => ?_, fun e he => ?_, fun e he => ?_, rfl⟩
    · simp only [indirect, hv, ok_bind]
      rfl
    · simp only [indirect, hv, ok_bind]
      rfl
    · simp only [indirect, he, error_bind]
    · simp only [indirect, he, error_bind]

/-! ### Circular sums -/

/-- The new index of a circular update (R208). -/
def circularIndex (size index step : Nat) (down : Bool) : Nat :=
  if down then (if step ≤ index then index - step else index + size - step)
  else (if size ≤ index + step then index + step - size else index + step)

theorem circularIndex_up {size index step : Nat} (hi : index < size) (hs : step ≤ size) :
    circularIndex size index step false = (index + step) % size := by
  by_cases h : size ≤ index + step
  · simp only [circularIndex, Bool.false_eq_true, if_false, if_pos h]
    rw [Nat.mod_eq_sub_mod h, Nat.mod_eq_of_lt (by omega)]
  · simp only [circularIndex, Bool.false_eq_true, if_false, if_neg h]
    rw [Nat.mod_eq_of_lt (by omega)]

theorem circularIndex_down {size index step : Nat} (hi : index < size) (hs : step ≤ size) :
    circularIndex size index step true = (index + size - step) % size := by
  by_cases h : step ≤ index
  · simp only [circularIndex, if_true, if_pos h]
    rw [Nat.mod_eq_sub_mod (by omega), Nat.mod_eq_of_lt (by omega)]
    omega
  · simp only [circularIndex, if_true, if_neg h]
    rw [Nat.mod_eq_of_lt (by omega)]

theorem circular_completes (h : 0 < bk.toNat ∧ a.toNat % 2 ^ (Nat.log2 bk.toNat + 1) < bk.toNat ∧ d.toNat ≤ bk.toNat)
    (down : Bool) :
    circular bk a d down = .ok (BitVec.ofNat 32 (a.toNat / 2 ^ (Nat.log2 bk.toNat + 1) * 2 ^ (Nat.log2 bk.toNat + 1) +
      circularIndex bk.toNat (a.toNat % 2 ^ (Nat.log2 bk.toNat + 1)) d.toNat down)) := by
  obtain ⟨h1, h2, h3⟩ := h
  simp only [circular, decide_eq_true h1, decide_eq_true h2, decide_eq_true h3, Bool.and_self, need_true, ok_bind]
  rfl

theorem circular_refused (h : ¬(0 < bk.toNat ∧ a.toNat % 2 ^ (Nat.log2 bk.toNat + 1) < bk.toNat ∧ d.toNat ≤ bk.toNat))
    (down : Bool) : circular bk a d down = refuse .circularBounds := by
  have hneed : (decide (0 < bk.toNat) && decide (a.toNat % 2 ^ (Nat.log2 bk.toNat + 1) < bk.toNat) &&
      decide (d.toNat ≤ bk.toNat)) = false := by
    rw [← Bool.not_eq_true, Bool.and_eq_true, Bool.and_eq_true, decide_eq_true_eq, decide_eq_true_eq, decide_eq_true_eq,
      and_assoc]
    exact h
  simp only [circular, hneed, need_false, refuse_bind]

/-- A pointer whose index stays inside its span does not leave the 32 bits. -/
theorem block_add_index (e : Nat) (he : e ≤ 32) {index : Nat} (hindex : index < 2 ^ e) (a : Word) :
    (BitVec.ofNat 32 (a.toNat / 2 ^ e * 2 ^ e + index)).toNat / 2 ^ e = a.toNat / 2 ^ e ∧
      (BitVec.ofNat 32 (a.toNat / 2 ^ e * 2 ^ e + index)).toNat % 2 ^ e = index := by
  have hpos : 0 < 2 ^ e := Nat.two_pow_pos e
  have hsplit : 2 ^ e * 2 ^ (32 - e) = 2 ^ 32 := by rw [← pow_add, Nat.add_sub_cancel' he]
  have hblock : a.toNat / 2 ^ e < 2 ^ (32 - e) := Nat.div_lt_of_lt_mul (hsplit ▸ a.isLt)
  have hlt : a.toNat / 2 ^ e * 2 ^ e + index < 2 ^ 32 := by
    calc a.toNat / 2 ^ e * 2 ^ e + index < (a.toNat / 2 ^ e + 1) * 2 ^ e := by rw [Nat.add_one_mul]; omega
      _ ≤ 2 ^ (32 - e) * 2 ^ e := Nat.mul_le_mul_right _ hblock
      _ = 2 ^ 32 := by rw [Nat.mul_comm, hsplit]
  rw [BitVec.toNat_ofNat, Nat.mod_eq_of_lt hlt, Nat.mul_comm]
  exact ⟨by rw [Nat.mul_add_div hpos, Nat.div_eq_of_lt hindex, Nat.add_zero], by rw [Nat.mul_add_mod, Nat.mod_eq_of_lt hindex]⟩

theorem circular_span {index : Nat} (hi : index < bk.toNat) :
    Nat.log2 bk.toNat + 1 ≤ 32 ∧ index < 2 ^ (Nat.log2 bk.toNat + 1) := by
  have hne : bk.toNat ≠ 0 := by omega
  exact ⟨(Nat.log2_lt hne).mpr bk.isLt, hi.trans Nat.lt_log2_self⟩

/-! ### Reverse-carry sums -/

/-- Bits of a sum below the lowest 1 of the increment are those of the other operand. -/
theorem getLsbD_add_of_dvd {n p : Nat} {x y : BitVec n} (hy : 2 ^ p ∣ y.toNat) {j : Nat} (hj : j < p) (hn : j < n) :
    (x + y).getLsbD j = x.getLsbD j := by
  obtain ⟨q, hq⟩ := hy
  have hmod : (x.toNat + y.toNat) % 2 ^ p = x.toNat % 2 ^ p := by rw [hq, Nat.add_mul_mod_self_left]
  have hbit := congrArg (fun m => m.testBit j) hmod
  simp only [Nat.testBit_mod_two_pow, hj, decide_true, Bool.true_and] at hbit
  rw [BitVec.getLsbD, BitVec.getLsbD, BitVec.toNat_add, Nat.testBit_mod_two_pow, hbit]
  simp [hn]

/-- The reverse of a number below 2^m is divisible by the power of 2 of the rest of its width. -/
theorem two_pow_dvd_reverse {n m : Nat} {y : BitVec n} (hy : y.toNat < 2 ^ m) : 2 ^ (n - m) ∣ y.reverse.toNat := by
  rw [Nat.dvd_iff_mod_eq_zero]
  apply Nat.eq_of_testBit_eq
  intro i
  rw [Nat.testBit_mod_two_pow, Nat.zero_testBit, ← BitVec.getLsbD, BitVec.getLsbD_reverse, BitVec.getMsbD_eq_getLsbD]
  by_cases hi : i < n - m
  · have hbit : y.getLsbD (n - 1 - i) = false :=
      Nat.testBit_lt_two_pow (hy.trans_le (Nat.pow_le_pow_right (by decide) (by omega)))
    simp [hbit]
  · simp [hi]

theorem getLsbD_reverseAdd {n m j : Nat} {x y : BitVec n} (hy : y.toNat < 2 ^ m) (hj : m ≤ j) (hn : j < n) :
    (reverseAdd x y).getLsbD j = x.getLsbD j := by
  rw [reverseAdd, BitVec.getLsbD_reverse, BitVec.getMsbD_eq_getLsbD,
    getLsbD_add_of_dvd (two_pow_dvd_reverse hy) (by omega) (by omega), BitVec.getLsbD_reverse, BitVec.getMsbD_eq_getLsbD]
  have hback : n - 1 - (n - 1 - j) = j := by omega
  have hlt : n - 1 - j < n := by omega
  simp [hback, hlt, hn]

/-- The high bits of ARn take no part in a reverse-carry sum (R215). -/
theorem getLsbD_rcadd (w : ArauWidth) (x y : Word) {m j : Nat} (hy : y.toNat < 2 ^ m) (hj : m ≤ j) :
    (rcadd w x y).getLsbD j = x.getLsbD j := by
  by_cases hn : j < 32
  · cases w with
    | w32 => exact getLsbD_reverseAdd hy hj hn
    | w24 =>
      have hlow : (y.extractLsb' 0 24).toNat < 2 ^ m := by
        rw [BitVec.extractLsb'_toNat]
        exact (Nat.mod_le _ _).trans_lt (by simpa using hy)
      rw [rcadd, BitVec.getLsbD_append]
      by_cases h : j < 24
      · rw [if_pos h, getLsbD_reverseAdd hlow hj h]
        simp [h]
      · have hsub : 24 + (j - 24) = j := by omega
        have hlt : j - 24 < 8 := by omega
        rw [if_neg h]
        simp [hsub, hlt]
  · rw [BitVec.getLsbD_of_ge _ _ (by omega), BitVec.getLsbD_of_ge _ _ (by omega)]

/-- A word below 2^24 is its 24 LSBs after 8 zeros. -/
theorem eq_zero_append_low {x : Word} (h : x.toNat < 2 ^ 24) : x = 0#8 ++ x.extractLsb' 0 24 := by
  apply BitVec.eq_of_toNat_eq
  rw [BitVec.toNat_append, BitVec.extractLsb'_toNat]
  simp
  omega

theorem reverse_zero_append (x : BitVec 24) : (0#8 ++ x : Word).reverse = x.reverse ++ 0#8 := by
  rw [BitVec.reverse_append, BitVec.reverse_eq_zero_iff.mpr rfl]
  rfl

theorem append_zero_add (x y : BitVec 24) : (x ++ 0#8 : Word) + (y ++ 0#8) = (x + y) ++ 0#8 := by
  apply BitVec.eq_of_toNat_eq
  rw [BitVec.toNat_add, BitVec.toNat_append, BitVec.toNat_append, BitVec.toNat_append]
  simp [Nat.shiftLeft_eq]
  omega

theorem rcadd_width {x y : Word} (hx : x.toNat < 2 ^ 24) (hy : y.toNat < 2 ^ 24) : rcadd .w24 x y = rcadd .w32 x y := by
  have hhigh : x.extractLsb' 24 8 = 0#8 := by
    rw [eq_zero_append_low hx]
    exact BitVec.extractLsb'_append_eq_left
  have hsum : (x.reverse + y.reverse).reverse = 0#8 ++ reverseAdd (x.extractLsb' 0 24) (y.extractLsb' 0 24) := by
    rw [← BitVec.reverse_reverse_eq (x := 0#8 ++ reverseAdd _ _), reverse_zero_append, reverseAdd,
      BitVec.reverse_reverse_eq, ← append_zero_add, ← reverse_zero_append, ← reverse_zero_append, ← eq_zero_append_low hx,
      ← eq_zero_append_low hy]
  rw [rcadd, rcadd, hhigh, ← hsum, reverseAdd]

/-- Settles O18: the new index stays below BK, and a reversed sum carries to less significant bits alone. -/
theorem circularAndReverseCarrySums : Obligations.CircularAndReverseCarrySums := by
  unfold Obligations.CircularAndReverseCarrySums
  refine ⟨fun bk a d => ⟨fun h => ?_, fun h => circular_refused h⟩, fun w a b m j hb hj => getLsbD_rcadd w a b hb hj,
    fun a b => BitVec.reverse_reverse_eq, fun a b => rcadd_width⟩
  obtain ⟨h1, h2, h3⟩ := h
  constructor
  · have hindex := circularIndex_up h2 h3
    obtain ⟨he, hlt⟩ := circular_span (bk := bk) (index := circularIndex _ _ _ false) (hindex ▸ Nat.mod_lt _ h1)
    obtain ⟨hdiv, hmod⟩ := block_add_index _ he hlt a
    exact ⟨_, circular_completes ⟨h1, h2, h3⟩ false, hdiv, hmod.trans hindex⟩
  · have hindex := circularIndex_down h2 h3
    obtain ⟨he, hlt⟩ := circular_span (bk := bk) (index := circularIndex _ _ _ true) (hindex ▸ Nat.mod_lt _ h1)
    obtain ⟨hdiv, hmod⟩ := block_add_index _ he hlt a
    exact ⟨_, circular_completes ⟨h1, h2, h3⟩ true, hdiv, hmod.trans hindex⟩

end Sys2Proof.Machine
end

section
/-! Register writes, the layout of ST, and single memory accesses. -/
namespace Sys2Proof.Machine

variable {s t : State} {r : Reg} {v : Word}

/-! ### Register writes -/

theorem intView_withInt (x : Ext) (v : Word) : intView (withInt x v) = v := by
  rw [intView, withInt, BitVec.setWidth_append]
  simp

theorem high8_withInt (x : Ext) (v : Word) : (withInt x v).extractLsb' 32 8 = x.extractLsb' 32 8 :=
  BitVec.extractLsb'_append_eq_left

theorem writeInt_st_ok (h : writeInt .st v s = .ok t) : t = s.setSt (Status.ofWord s.params.stLayout v) := by
  simp only [writeInt] at h
  split at h
  · simp at h
  · cases h
    rfl

theorem readInt_writeInt (h : writeInt r v s = .ok t) (hst : r ≠ .st) : readInt r t = .ok v := by
  cases r with
  | r n =>
    cases h
    simp [readInt, intView_withInt]
  | ar n =>
    cases h
    simp [readInt]
  | st => exact absurd rfl hst
  | ie | ifr | iof => cases h
  | dp | ir0 | ir1 | bk | sp | rs | re | rc =>
    cases h
    rfl

theorem contents_writeInt (h : writeInt r v s = .ok t) {q : Reg} (hq : q ≠ r) : t.contents q = s.contents q := by
  cases r with
  | r n =>
    cases h
    cases q with
    | r m =>
      have hne : n ≠ m := fun he => hq (he ▸ rfl)
      simp [State.contents, hne]
    | ar | dp | ir0 | ir1 | bk | sp | st | ie | ifr | iof | rs | re | rc => rfl
  | ar n =>
    cases h
    cases q with
    | ar m =>
      have hne : n ≠ m := fun he => hq (he ▸ rfl)
      simp [State.contents, hne]
    | r | dp | ir0 | ir1 | bk | sp | st | ie | ifr | iof | rs | re | rc => rfl
  | st =>
    rw [writeInt_st_ok h]
    cases q with
    | st => exact absurd rfl hq
    | r | ar | dp | ir0 | ir1 | bk | sp | ie | ifr | iof | rs | re | rc => rfl
  | ie | ifr | iof => cases h
  | dp | ir0 | ir1 | bk | sp | rs | re | rc =>
    cases h
    cases q <;> simp_all [State.contents, State.rn, State.arn]

theorem high8_writeInt {n : Rn} (h : writeInt (.r n) v s = .ok t) :
    (t.rn n).extractLsb' 32 8 = (s.rn n).extractLsb' 32 8 := by
  cases h
  rw [State.rn_setR, if_pos rfl, high8_withInt]

/-! ### The layout of ST -/

theorem getLsbD_bitAt (p : Fin 32) (b : Bool) (i : Nat) : (bitAt p b).getLsbD i = (b && decide (i = p.val)) := by
  cases b with
  | false => simp [bitAt]
  | true =>
    rw [bitAt, if_pos rfl, BitVec.getLsbD_shiftLeft, BitVec.getLsbD_one]
    have := p.isLt
    rw [Bool.eq_iff_iff]
    simp
    omega

/-- The bits of ST in the default layout (R31; log 29). -/
theorem getLsbD_toWord (st : Status) (i : Nat) : (st.toWord defaultStLayout).getLsbD i =
    (st.c && decide (i = 0) || st.v && decide (i = 1) || st.z && decide (i = 2) || st.n && decide (i = 3) ||
      st.uf && decide (i = 4) || st.lv && decide (i = 5) || st.luf && decide (i = 6) || st.ovm && decide (i = 7) ||
      st.rm && decide (i = 8) || st.cf && decide (i = 10) || st.ce && decide (i = 11) || st.cc && decide (i = 12) ||
      st.gie && decide (i = 13)) := by
  simp only [Status.toWord, BitVec.getLsbD_or, getLsbD_bitAt]
  rfl

theorem ofWord_toWord (st : Status) : Status.ofWord defaultStLayout (st.toWord defaultStLayout) = st := by
  simp only [Status.ofWord, getLsbD_toWord]
  simp [defaultStLayout]

theorem toWord_ofWord (v : Word) : (Status.ofWord defaultStLayout v).toWord defaultStLayout = v &&& 0x3DFF#32 := by
  apply BitVec.eq_of_getLsbD_eq
  intro i hi
  rw [getLsbD_toWord, BitVec.getLsbD_and]
  interval_cases i <;> simp [Status.ofWord, defaultStLayout]

/-- A word that is a number below a power of 2. -/
structure Below (w : Word) (n q : Nat) : Prop where
  toNat : w.toNat = n
  lt : n < 2 ^ q

theorem Below.bit (b : Bool) : Below (bitAt 0 b) b.toNat 1 := by
  cases b <;> exact ⟨rfl, by decide⟩

/-- One more bit, at a place above the others, adds its power of 2. -/
theorem Below.or {w : Word} {n q : Nat} (h : Below w n q) (p : Fin 32) (hq : q ≤ p.val) (b : Bool) :
    Below (w ||| bitAt p b) (n + 2 ^ p.val * b.toNat) (p.val + 1) := by
  have hlt : n < 2 ^ p.val := h.lt.trans_le (Nat.pow_le_pow_right (by decide) hq)
  have hbit : (bitAt p b).toNat = 2 ^ p.val * b.toNat := by
    cases b with
    | false => simp [bitAt]
    | true =>
      have hpow : 2 ^ p.val < 2 ^ 32 := Nat.pow_lt_pow_right (by decide) p.isLt
      simp only [bitAt, if_pos, BitVec.toNat_shiftLeft, BitVec.toNat_ofNat, Nat.shiftLeft_eq, Bool.toNat_true]
      omega
  have hle := b.toNat_le
  refine ⟨?_, ?_⟩
  · rw [BitVec.toNat_or, h.toNat, hbit, Nat.or_comm, ← Nat.two_pow_add_eq_or_of_lt hlt, Nat.add_comm]
  · calc n + 2 ^ p.val * b.toNat < 2 ^ p.val + 2 ^ p.val * 1 :=
          Nat.add_lt_add_of_lt_of_le hlt (Nat.mul_le_mul_left _ hle)
      _ = 2 ^ (p.val + 1) := by rw [Nat.pow_succ]; omega

theorem toNat_toWord (st : Status) : (st.toWord defaultStLayout).toNat = st.c.toNat + 2 * st.v.toNat + 4 * st.z.toNat +
    8 * st.n.toNat + 16 * st.uf.toNat + 32 * st.lv.toNat + 64 * st.luf.toNat + 128 * st.ovm.toNat + 256 * st.rm.toNat +
    1024 * st.cf.toNat + 2048 * st.ce.toNat + 4096 * st.cc.toNat + 8192 * st.gie.toNat :=
  have flags := ((((((Below.bit st.c).or 1 (by decide) st.v).or 2 (by decide) st.z).or 3 (by decide) st.n).or 4 (by decide)
    st.uf).or 5 (by decide) st.lv).or 6 (by decide) st.luf
  have modes := (flags.or 7 (by decide) st.ovm).or 8 (by decide) st.rm
  ((((modes.or 10 (by decide) st.cf).or 11 (by decide) st.ce).or 12 (by decide) st.cc).or 13 (by decide) st.gie).toNat

/-- Settles O21: a write changes the register it names, and each bit of ST has a place of its own. -/
theorem registersAndStatusLayout : Obligations.RegistersAndStatusLayout := by
  unfold Obligations.RegistersAndStatusLayout
  refine ⟨fun r v s t h => ⟨readInt_writeInt h, ?_, fun q => contents_writeInt h, ?_⟩, rfl, toWord_ofWord,
    fun st => ⟨ofWord_toWord st, toNat_toWord st⟩⟩
  · rintro rfl
    rw [writeInt_st_ok h]
    rfl
  · rintro n rfl
    exact high8_writeInt h

/-! ### Memory accesses -/

theorem memRead_unmapped {a : Addr} (h : s.kindAt a = .unmapped) : memRead a s = refuse (.unmapped a) := by
  simp [memRead, h]

theorem memWrite_unmapped {a : Addr} (h : s.kindAt a = .unmapped) (v : Word) : memWrite a v s = refuse (.unmapped a) := by
  simp [memWrite, h]

theorem memRead_peripheral {a : Addr} (h : s.kindAt a = .peripheral) :
    memRead a s = .ok (Config.freeWord s.draws, s.tick) := by
  simp [memRead, h, drawWord]

theorem memRead_store {a : Addr} (v : Word) (h : s.kindAt a ≠ .unmapped) (hp : s.kindAt a ≠ .peripheral) :
    memRead a (s.store a v) = .ok (v, s.store a v) := by
  rw [memRead_plain (s := s.store a v) h hp, State.store_mem, Memory.read_write_self]

theorem contents_store (a : Addr) (v : Word) (r : Reg) : (s.store a v).contents r = s.contents r := by
  cases r <;> rfl

/-- A word that another agent writes to external memory that is not protected is there (R73). -/
theorem outsideWrites_external {a : Addr} (v : Word)
    (hk : s.kindAt a = .externalStrb ∨ s.kindAt a = .externalMstrb ∨ s.kindAt a = .externalIostrb)
    (hp : s.inProgram a = false) (hl : s.locked a = false) : outsideWrites [(a, v)] s = s.store a v := by
  have hshared : s.shared a = true := by
    rcases hk with hk | hk | hk <;> simp [State.shared, hk]
  have hmay : s.agentMay a = true := by simp [State.agentMay, hshared, hp, hl]
  simp [outsideWrites, hmay]

/-- Settles O15: the cases of the kind of the address. -/
theorem memoryAccesses : Obligations.MemoryAccesses := by
  unfold Obligations.MemoryAccesses
  refine ⟨fun s a v ha => ⟨_, memWrite_plain v ha.1 ha.2, fun hp => memRead_store v ha.1 hp, fun b hb => ?_,
      contents_store a v, rfl, Memory.write_addr_wf s.mem a v⟩,
    fun s a v h => ⟨memRead_unmapped h, memWrite_unmapped h v⟩, fun s a h => memRead_peripheral h,
    fun s a v hk hp hl => ?_, fun s m dst a s1 he h => ?_⟩
  · exact Memory.read_write_of_ne _ _ fun h => hb (BitVec.eq_of_toNat_eq h).symm
  · rw [outsideWrites_external v hk hp hl]
    rcases hk with hk | hk | hk <;> exact memRead_store v (by simp [hk]) (by simp [hk])
  · have h1 : s1.kindAt a = .unmapped := by
      obtain ⟨ar, d, rfl, -⟩ := ea_frame he
      exact h
    have hload : loadMem m s = refuse (.unmapped a) := (loadMem_eq he).trans (memRead_unmapped h1)
    have hsrc : srcFlt (.mem m) s = refuse (.unmapped a) := by simp [srcFlt, hload]
    have hstore : storeAt (narrow (s.rn dst)) m s = refuse (.unmapped a) := by simp [storeAt, he, memWrite_unmapped h1]
    exact ⟨toOutcome_bind_refused hsrc _, refused_of_eq hstore⟩

end Sys2Proof.Machine
end

section
/-! The values of operands, one at a time and in the order in which an instruction reads them. -/
namespace Sys2Proof.Machine

variable {s s1 s2 : State} {i : Indirect} {a : Addr} {v : Word}

theorem readInt_contents {r : Reg} (h : namedReg r = true) (s : State) :
    readInt r s = .ok ((s.contents r).setWidth 32) := by
  cases r with
  | r n => rfl
  | ie | ifr | iof => cases h
  | ar | dp | ir0 | ir1 | bk | sp | st | rs | re | rc => simp [readInt, State.contents]

theorem loadInd_of (ha : indirect i s = .ok (a, s1)) (hv : memRead a s1 = .ok (v, s2)) : loadInd i s = .ok (v, s2) := by
  simp only [loadInd, ha, ok_bind, hv]

theorem srcInt_reg {e : ImmExt} {r : Reg} (h : namedReg r = true) (s : State) :
    srcInt e (.reg r) s = .ok ((s.contents r).setWidth 32, s) := by
  simp only [srcInt, readInt_contents h, ok_bind]

theorem srcInt_mem {e : ImmExt} {m : MemOp} (ha : ea m s = .ok (a, s1)) (hv : memRead a s1 = .ok (v, s2)) :
    srcInt e (.mem m) s = .ok (v, s2) := (loadMem_eq ha).trans hv

theorem srcFlt_mem {m : MemOp} (ha : ea m s = .ok (a, s1)) (hv : memRead a s1 = .ok (v, s2)) :
    srcFlt (.mem m) s = .ok (widen v, s2) := by
  simp only [srcFlt, loadMem_eq ha, hv, ok_bind]

theorem src3Int_reg {r : Reg} (h : namedReg r = true) (s0 s : State) :
    src3Int s0 (.reg r) s = .ok ((s0.contents r).setWidth 32, s) := by
  simp only [src3Int, readInt_contents h, ok_bind]

theorem src3Int_ind (h : loadInd i s = .ok (v, s1)) (s0 : State) : src3Int s0 (.ind i) s = .ok (v, agentsAct s1) := by
  simp only [src3Int, h, ok_bind]

theorem src3Flt_ind (h : loadInd i s = .ok (v, s1)) (s0 : State) :
    src3Flt s0 (.ind i) s = .ok (widen v, agentsAct s1) := by
  simp only [src3Flt, h, ok_bind]

theorem mul3Int_ind (h : loadInd i s = .ok (v, s1)) (s0 : State) : mul3Int s0 (.ind i) s = .ok (v, agentsAct s1) := by
  simp only [mul3Int, h, ok_bind]

/-- Two operands that do not clash are read in order. -/
theorem both3Int_of {x y : Src3} {a b : Word} (hc : clash3 x y = false) (ha : src3Int s x s = .ok (a, s1))
    (hb : src3Int s y s1 = .ok (b, s2)) : both3Int x y s = .ok (a, b, s2) := by
  simp only [both3Int, hc, Bool.not_false, need_true, ok_bind, ha, hb]

theorem both3Flt_of {x y : FSrc3} {a b : Ext} (hc : fclash3 x y = false) (ha : src3Flt s x s = .ok (a, s1))
    (hb : src3Flt s y s1 = .ok (b, s2)) : both3Flt x y s = .ok (a, b, s2) := by
  simp only [both3Flt, hc, Bool.not_false, need_true, ok_bind, ha, hb]

/-! ### The operands of a parallel multiply -/

/-- The words that indirect operands give, read in order, each after its own address update (R69; log 38). -/
inductive LoadsInOrder : List Indirect → List Word → State → State → Prop
  | nil (s : State) : LoadsInOrder [] [] s s
  | cons {i : Indirect} {is : List Indirect} {v : Word} {vs : List Word} {s s1 t : State} (h : loadInd i s = .ok (v, s1))
      (hs : LoadsInOrder is vs (agentsAct s1) t) : LoadsInOrder (i :: is) (v :: vs) s t

/-- The indirect operands of a list. -/
def indirectsOf : List FSrc3 → List Indirect
  | [] => []
  | .ind i :: t => i :: indirectsOf t
  | .reg _ :: t => indirectsOf t

theorem pairIndirects_eq (p : MulPair) : pairIndirects p = indirectsOf [p.op1, p.op2, p.op4, p.op5] := by
  unfold pairIndirects
  generalize [p.op1, p.op2, p.op4, p.op5] = l
  induction l with
  | nil => rfl
  | cons x l ih => cases x <;> simp [indirectsOf, ih]

/-- Operands read one after the other. -/
inductive ReadsInOrder {α : Type} (read : FSrc3 → State → Res (α × State)) :
    List FSrc3 → List α → State → State → Prop
  | nil (s : State) : ReadsInOrder read [] [] s s
  | cons {x : FSrc3} {l : List FSrc3} {b : α} {bs : List α} {s s1 t : State} (h : read x s = .ok (b, s1))
      (hs : ReadsInOrder read l bs s1 t) : ReadsInOrder read (x :: l) (b :: bs) s t

/-- The values of operands are those of their registers, and the words loaded, in order. -/
theorem readsInOrder_of_loads {α : Type} {read : FSrc3 → State → Res (α × State)} {reg : Rn → α} {val : Word → α}
    (hreg : ∀ n s, read (.reg n) s = .ok (reg n, s))
    (hind : ∀ i s v s1, loadInd i s = .ok (v, s1) → read (.ind i) s = .ok (val v, agentsAct s1))
    {l : List FSrc3} {vs : List Word} {s t : State} (h : LoadsInOrder (indirectsOf l) vs s t) :
    ReadsInOrder read l (pairValues reg l (vs.map val)) s t := by
  induction l generalizing vs s with
  | nil =>
    cases h
    exact .nil _
  | cons x l ih =>
    cases x with
    | reg n => exact .cons (hreg n s) (ih h)
    | ind i =>
      cases h with
      | cons h hs => exact .cons (hind i s _ _ h) (ih hs)

theorem guardMul_pass {p : MulPair} {j : Indirect} (h : pairIndirects p = [i, j]) (hc : clash i j = false) :
    guardMul p = .ok () := by
  simp [guardMul, h, guardPair, hc]

theorem mulPairInt_of_reads {p : MulPair} {a b c d : Word} {t : State} (hg : guardMul p = .ok ())
    (h : ReadsInOrder (mul3Int s) [p.op1, p.op2, p.op4, p.op5] [a, b, c, d] s t) :
    mulPairInt p s = .ok (a, b, c, d, t) := by
  cases h with
  | cons h1 h =>
    cases h with
    | cons h2 h =>
      cases h with
      | cons h3 h =>
        cases h with
        | cons h4 h =>
          cases h
          simp only [mulPairInt, hg, h1, h2, h3, h4, ok_bind]

theorem mulPairFlt_of_reads {p : MulPair} {a b c d : Ext} {t : State} (hg : guardMul p = .ok ())
    (h : ReadsInOrder (src3Flt s) [p.op1, p.op2, p.op4, p.op5] [a, b, c, d] s t) :
    mulPairFlt p s = .ok (a, b, c, d, t) := by
  cases h with
  | cons h1 h =>
    cases h with
    | cons h2 h =>
      cases h with
      | cons h3 h =>
        cases h with
        | cons h4 h =>
          cases h
          simp only [mulPairFlt, hg, h1, h2, h3, h4, ok_bind]

theorem mulPairInt_of_loads {p : MulPair} {vs : List Word} {a b c d : Word} {t : State} (hg : guardMul p = .ok ())
    (h : LoadsInOrder (pairIndirects p) vs s t)
    (hv : pairValues (fun n => (s.rn n).setWidth 32) [p.op1, p.op2, p.op4, p.op5] vs = [a, b, c, d]) :
    mulPairInt p s = .ok (a, b, c, d, t) := by
  rw [pairIndirects_eq] at h
  have hreads := readsInOrder_of_loads (read := mul3Int s) (val := id) (fun n s1 => rfl)
    (fun i s1 v s2 hl => mul3Int_ind hl s) h
  rw [List.map_id] at hreads
  exact mulPairInt_of_reads hg (hv ▸ hreads)

theorem mulPairFlt_of_loads {p : MulPair} {vs : List Word} {a b c d : Ext} {t : State} (hg : guardMul p = .ok ())
    (h : LoadsInOrder (pairIndirects p) vs s t)
    (hv : pairValues s.rn [p.op1, p.op2, p.op4, p.op5] (vs.map widen) = [a, b, c, d]) :
    mulPairFlt p s = .ok (a, b, c, d, t) := by
  rw [pairIndirects_eq] at h
  have hreads := readsInOrder_of_loads (read := src3Flt s) (val := widen) (fun n s1 => rfl)
    (fun i s1 v s2 hl => src3Flt_ind hl s) h
  exact mulPairFlt_of_reads hg (hv ▸ hreads)

/-- Settles O19: registers are read before the instruction, and the words of memory one after the other. -/
theorem operandValues : Obligations.OperandValues := by
  unfold Obligations.OperandValues
  refine ⟨fun s e => ⟨fun r hr => srcInt_reg hr s, fun m a s1 w s2 => srcInt_mem, fun k => ⟨rfl, rfl⟩⟩,
    fun s => ⟨fun n => rfl, fun m a s1 w s2 => srcFlt_mem, fun k => rfl⟩, fun s s1 s2 i a v ha hv => ?_,
    fun s r q n m => ⟨fun hr hq => both3Int_of rfl (src3Int_reg hr s s) (src3Int_reg hq s s),
      both3Flt_of rfl rfl rfl⟩⟩
  have hi := loadInd_of ha hv
  refine ⟨fun r hr => ⟨?_, ?_⟩, fun n => ⟨?_, ?_⟩, fun j b w s3 s4 hc hb hw => ⟨?_, ?_, fun p hp => ⟨?_, ?_⟩⟩⟩
  · exact both3Int_of rfl (src3Int_reg hr s s) (src3Int_ind hi s)
  · exact both3Int_of rfl (src3Int_ind hi s) (src3Int_reg hr s _)
  · exact both3Flt_of rfl rfl (src3Flt_ind hi s)
  · exact both3Flt_of rfl (src3Flt_ind hi s) rfl
  · exact both3Int_of hc (src3Int_ind hi s) (src3Int_ind (loadInd_of hb hw) s)
  · exact both3Flt_of hc (src3Flt_ind hi s) (src3Flt_ind (loadInd_of hb hw) s)
  · intro x1 x2 x4 x5 hx
    exact mulPairInt_of_loads (vs := [v, w]) (guardMul_pass hp hc)
      (hp.symm ▸ LoadsInOrder.cons hi (.cons (loadInd_of hb hw) (.nil _))) hx
  · intro x1 x2 x4 x5 hx
    exact mulPairFlt_of_loads (vs := [v, w]) (guardMul_pass hp hc)
      (hp.symm ▸ LoadsInOrder.cons hi (.cons (loadInd_of hb hw) (.nil _))) hx

end Sys2Proof.Machine
end

section
/-! An operation or a load in parallel with a store: what the pair reads, and what it then writes. -/
namespace Sys2Proof.Machine

variable {s s1 s2 s3 : State} {i j : Indirect} {a : Addr} {b x : Word} {k : FlagClass} {c : Option Bool} {o : Bool}

/-! ### Operands leave the registers, the parameters and the program -/

theorem AuxAndAgents.rn {m : ARn → Bool} (h : AuxAndAgents m s s1) (n : Rn) : s1.rn n = s.rn n := by
  obtain ⟨_, _, _, _, _, rfl, _⟩ := h
  rfl

theorem AuxAndAgents.params {m : ARn → Bool} (h : AuxAndAgents m s s1) : s1.params = s.params := by
  obtain ⟨_, _, _, _, _, rfl, _⟩ := h
  rfl

theorem AuxAndAgents.writable {m : ARn → Bool} (h : AuxAndAgents m s s1) (ha : s.writable a) : s1.writable a := by
  obtain ⟨_, _, _, _, _, rfl, _⟩ := h
  exact ha

/-! ### The first half of a pair -/

theorem guardPair_pass (h : clash i j = false) : guardPair i j = .ok () := by simp [guardPair, h]

theorem pairStart_of (hc : clash j i = false) (ha : indirect i s = .ok (a, s1)) (hb : loadInd j s1 = .ok (b, s2)) :
    pairStart j i s = .ok (b, a, agentsAct s2) := by
  simp only [pairStart, guardPair_pass hc, ha, hb, ok_bind]

theorem pairStart_frame (ha : indirect i s = .ok (a, s1)) (hb : loadInd j s1 = .ok (b, s2)) :
    ∃ m, AuxAndAgents m s (agentsAct s2) :=
  ⟨_, .acted ((indirect_frame ha).trans (loadInd_frame hb))⟩

/-! ### The second half: the result, its flags and the store -/

section
variable {one : OneStore} {two : TwoStore}

theorem oneSti_completes {f : Word → IntResult} (hp : pairStart one.src2 one.dst2 s = .ok (b, a, s3))
    (hw : s3.writable a) (hf : f b = ⟨x, c, o⟩) :
    toOutcome (oneSti k f one s) =
      .next (sequential ((s3.integerResult k one.dst1 x c o).store a ((s.rn one.src3).setWidth 32))) := by
  have hstore := memWrite_plain (s := s3.integerResult k one.dst1 x c o) (intView (s.rn one.src3)) hw.1 hw.2
  simp only [oneSti, hp, hf, putInt_eq, State.integerWrite, hstore, ok_bind, toOutcome_ok]
  rfl

theorem twoSti_completes {f : Word → Word → IntResult} (hp : pairStart two.src2 two.dst2 s = .ok (b, a, s3))
    (hw : s3.writable a) (hf : f ((s.rn two.src1).setWidth 32) b = ⟨x, c, o⟩) :
    toOutcome (twoSti k f two s) =
      .next (sequential ((s3.integerResult k two.dst1 x c o).store a ((s.rn two.src3).setWidth 32))) :=
  oneSti_completes (one := ⟨two.src2, two.dst1, two.src3, two.dst2⟩) hp hw hf

theorem oneStf_completes {f : Word → FltResult} {r : FltResult} (hp : pairStart one.src2 one.dst2 s = .ok (b, a, s3))
    (hw : s3.writable a) (hf : f b = r) :
    toOutcome (oneStf f one s) =
      .next (sequential ((s3.floatResult .arithFlt one.dst1 r.value r.v r.uf).store a
        ((s.rn one.src3).extractLsb' 8 32))) := by
  have hstore := memWrite_plain (s := s3.floatResult .arithFlt one.dst1 r.value r.v r.uf) (narrow (s.rn one.src3))
    hw.1 hw.2
  simp only [oneStf, hp, hf, putFlt_eq, hstore, ok_bind, toOutcome_ok]
  rfl

theorem twoStf_completes {f : Ext → Ext → FltResult} {r : FltResult}
    (hp : pairStart two.src2 two.dst2 s = .ok (b, a, s3)) (hw : s3.writable a) (hf : f (s.rn two.src1) (widen b) = r) :
    toOutcome (twoStf f two s) =
      .next (sequential ((s3.floatResult .arithFlt two.dst1 r.value r.v r.uf).store a
        ((s.rn two.src3).extractLsb' 8 32))) :=
  oneStf_completes (one := ⟨two.src2, two.dst1, two.src3, two.dst2⟩)
    (f := fun w => f (s.rn two.src1) (widen w)) hp hw hf

theorem mpyi3Sti_completes {m : Word} (hp : pairStart two.src2 two.dst2 s = .ok (b, a, s2))
    (hm : mulWords ((s.rn two.src1).setWidth 32) b s2 = (⟨m, c, o⟩, s3)) (hw : s3.writable a) :
    exec (.mpyi3Sti two) s =
      .next (sequential ((s3.integerResult .mulInt two.dst1 m c o).store a ((s.rn two.src3).setWidth 32))) := by
  have hstore := memWrite_plain (s := s3.integerResult .mulInt two.dst1 m c o) (intView (s.rn two.src3)) hw.1 hw.2
  show toOutcome _ = _
  simp only [hp, intView, hm, putInt_eq, State.integerWrite, ok_bind]
  simp only [intView] at hstore
  simp only [hstore, ok_bind, toOutcome_ok]

theorem ldfStf_completes (hp : pairStart one.src2 one.dst2 s = .ok (b, a, s3)) (hw : s3.writable a) :
    exec (.ldfStf one) s =
      .next (sequential ((s3.setR one.dst1 (b ++ 0#8)).store a ((s.rn one.src3).extractLsb' 8 32))) := by
  have hstore := memWrite_plain (s := s3.setR one.dst1 (widen b)) (narrow (s.rn one.src3)) hw.1 hw.2
  show toOutcome _ = _
  simp only [hp, hstore, ok_bind, toOutcome_ok]
  rfl

theorem ldiSti_completes (hp : pairStart one.src2 one.dst2 s = .ok (b, a, s3)) (hw : s3.writable a) :
    exec (.ldiSti one) s =
      .next (sequential ((s3.setR one.dst1 ((s3.rn one.dst1).extractLsb' 32 8 ++ b)).store a
        ((s.rn one.src3).setWidth 32))) := by
  have hstore := memWrite_plain (s := s3.setR one.dst1 (withInt (s3.rn one.dst1) b)) (intView (s.rn one.src3)) hw.1 hw.2
  show toOutcome _ = _
  simp only [hp, writeInt, hstore, ok_bind, toOutcome_ok]
  rfl

end

theorem fixResult_widen (w : Word) : fixResult (widen w) = ⟨(ffix (w ++ 0#8)).value, none, (ffix (w ++ 0#8)).v⟩ := rfl

theorem subOrder_source {α β : Type} {q : SubOrder} (h : q = .source) (f : α → α → β) (x y : α) :
    subOrder q f x y = f x y := h ▸ rfl

theorem subOrder_vendor {α β : Type} {q : SubOrder} (h : q = .vendor) (f : α → α → β) (x y : α) :
    subOrder q f x y = f y x := h ▸ rfl

/-- Settles O57: the shapes of the pairs at each integer function. -/
theorem integerOperationWithStore : Obligations.IntegerOperationWithStore := by
  unfold Obligations.IntegerOperationWithStore
  intro s s1 s2 src2 dst2 src1 dst1 src3 a b hc ha hb hwa x one two s3 bits done small
  have hp : pairStart src2 dst2 s = .ok (b, a, s3) := pairStart_of hc ha hb
  obtain ⟨m, hframe⟩ := pairStart_frame ha hb
  have hw : s3.writable a := hframe.writable hwa
  refine ⟨oneSti_completes (one := one) hp hw (absWord_eq b), oneSti_completes (one := one) hp hw (subWords_zero_plain b),
    oneSti_completes (one := one) hp hw rfl, oneSti_completes (one := one) hp hw (fixResult_widen b),
    twoSti_completes (two := two) hp hw (addWords_plain x b), fun h => ?_, fun h => ?_,
    twoSti_completes (two := two) hp hw rfl, twoSti_completes (two := two) hp hw rfl,
    twoSti_completes (two := two) hp hw rfl, twoSti_completes (two := two) hp hw rfl,
    twoSti_completes (two := two) hp hw rfl, fun h => ?_, fun h => ?_⟩
  · exact twoSti_completes (two := two) hp hw ((subOrder_source h _ _ _).trans (subWords_plain x b))
  · exact twoSti_completes (two := two) hp hw ((subOrder_vendor h _ _ _).trans (subWords_plain b x))
  · exact mpyi3Sti_completes (two := two) hp (mulWords_small h s3) hw
  · exact mpyi3Sti_completes (two := two) hp (mulWords_free h s3) hw

/-- Settles O58: the shapes of the pairs at each float function, and the loads, whose low bits alone an integer load
replaces. -/
theorem floatOperationOrLoadWithStore : Obligations.FloatOperationOrLoadWithStore := by
  unfold Obligations.FloatOperationOrLoadWithStore
  intro s s1 s2 src2 dst2 src1 dst1 src3 a w hc ha hb hwa x b one two s3 done
  have hp : pairStart src2 dst2 s = .ok (w, a, s3) := pairStart_of hc ha hb
  obtain ⟨m, hframe⟩ := pairStart_frame ha hb
  have hw : s3.writable a := hframe.writable hwa
  refine ⟨oneStf_completes (one := one) hp hw rfl, oneStf_completes (one := one) hp hw rfl,
    oneStf_completes (one := one) hp hw rfl, twoStf_completes (two := two) hp hw rfl, fun h => ?_, fun h => ?_,
    twoStf_completes (two := two) hp hw rfl, ldfStf_completes (one := one) hp hw, ?_⟩
  · exact twoStf_completes (two := two) hp hw (subOrder_source h _ _ _)
  · exact twoStf_completes (two := two) hp hw (subOrder_vendor h _ _ _)
  · rw [ldiSti_completes (one := one) hp hw, hframe.rn]

end Sys2Proof.Machine
end

section
/-! Two loads, two stores, and a multiply with an add or subtract. -/
namespace Sys2Proof.Machine

variable {s s1 s2 s3 s4 : State}

/-! ### Two loads, two stores -/

section
variable {p : LoadPair} {a b : Addr} {v w : Word}

theorem loadPair_of (hd : p.dst1 ≠ p.dst2) (hc : clash p.src2 p.src4 = false) (ha : indirect p.src2 s = .ok (a, s1))
    (hb : indirect p.src4 s1 = .ok (b, s2)) (hv : memRead a s2 = .ok (v, s3))
    (hw : memRead b (agentsAct s3) = .ok (w, s4)) : loadPair p s = .ok (v, w, s4) := by
  simp only [loadPair, bne_iff_ne.mpr hd, need_true, guardPair_pass hc, ha, hb, hv, hw, ok_bind]

theorem loadPair_frame (ha : indirect p.src2 s = .ok (a, s1)) (hb : indirect p.src4 s1 = .ok (b, s2))
    (hv : memRead a s2 = .ok (v, s3)) (hw : memRead b (agentsAct s3) = .ok (w, s4)) : ∃ m, AuxAndAgents m s s4 :=
  ⟨_, (AuxAndAgents.acted (((indirect_frame ha).trans (indirect_frame hb)).trans
    (OnlyAux.of_draws (c := fun _ => false) (memRead_frame hv)))).trans
    (OnlyAux.of_draws (c := fun _ => false) (memRead_frame hw)).andAgents⟩

theorem ldfLdf_completes (h : loadPair p s = .ok (v, w, s4)) :
    exec (.ldfLdf p) s = .next (sequential ((s4.setR p.dst1 (v ++ 0#8)).setR p.dst2 (w ++ 0#8))) := by
  show toOutcome _ = _
  simp only [h, ok_bind, toOutcome_ok]
  rfl

theorem ldiLdi_completes (h : loadPair p s = .ok (v, w, s4)) (hd : p.dst1 ≠ p.dst2) :
    exec (.ldiLdi p) s =
      .next (sequential ((s4.setR p.dst1 ((s4.rn p.dst1).extractLsb' 32 8 ++ v)).setR p.dst2
        ((s4.rn p.dst2).extractLsb' 32 8 ++ w))) := by
  show toOutcome _ = _
  simp only [h, writeInt, ok_bind, toOutcome_ok, State.rn_setR, if_neg hd]
  rfl

end

section
variable {p : StorePair} {a b : Addr} {v w : Word}

theorem storePair_of (hc : clash p.dst1 p.dst2 = false) (ha : indirect p.dst1 s = .ok (a, s1))
    (hb : indirect p.dst2 s1 = .ok (b, s2)) (hab : a ≠ b) (hwa : s.writable a) (hwb : s.writable b) (v w : Word) :
    storePair p v w s = .ok (sequential ((agentsAct (s2.store a v)).store b w)) := by
  have hframe := ((indirect_frame ha).trans (indirect_frame hb)).andAgents
  have hwa2 := hframe.writable hwa
  have hwb3 := (agentsAct_frame (s2.store a v)).writable (a := b) (hframe.writable hwb)
  simp only [storePair, guardPair_pass hc, ha, hb, bne_iff_ne.mpr hab, need_true, memWrite_plain v hwa2.1 hwa2.2,
    memWrite_plain w hwb3.1 hwb3.2, ok_bind]

theorem storePair_same (hc : clash p.dst1 p.dst2 = false) (ha : indirect p.dst1 s = .ok (a, s1))
    (hb : indirect p.dst2 s1 = .ok (a, s2)) (v w : Word) : storePair p v w s = refuse .sameStoreAddress := by
  simp only [storePair, guardPair_pass hc, ha, hb, bne_self_eq_false, need_false, ok_bind, refuse_bind]

end

/-- Settles O59: both halves of a pair use registers and addresses of the state before. -/
theorem twoLoadsTwoStores : Obligations.TwoLoadsTwoStores := by
  unfold Obligations.TwoLoadsTwoStores
  refine ⟨fun s s1 s2 s3 s4 p a b v w hd hc ha hb hv hw => ?_,
    fun s s1 s2 p a b hc ha hb => ⟨fun hab hwa hwb => ⟨?_, ?_⟩, ?_⟩⟩
  · have hload := loadPair_of hd hc ha hb hv hw
    obtain ⟨m, hframe⟩ := loadPair_frame ha hb hv hw
    refine ⟨ldfLdf_completes hload, ?_⟩
    rw [ldiLdi_completes hload hd, hframe.rn, hframe.rn]
  · exact toOutcome_next.mpr (storePair_of hc ha hb hab hwa hwb _ _)
  · exact toOutcome_next.mpr (storePair_of hc ha hb hab hwa hwb _ _)
  · rintro rfl
    exact ⟨congrArg toOutcome (storePair_same hc ha hb _ _), congrArg toOutcome (storePair_same hc ha hb _ _)⟩

/-! ### A multiply with an add or subtract -/

section
variable {p : MulPair}

theorem mulDst_ne_addDst (p : MulPair) : mulDst p ≠ addDst p := by
  unfold mulDst addDst
  split <;> split <;> decide

theorem mulPairFltOp_completes {f : Ext → Ext → FltResult} {a b c d : Ext} {q : FltResult}
    (h : mulPairFlt p s = .ok (a, b, c, d, s1)) (hq : f c d = q) :
    toOutcome (mulPairFltOp f p s) =
      .next (sequential (((s1.setR (mulDst p) (fmul a b).value).setR (addDst p) q.value).pairFlags
        ((fmul a b).v || q.v) ((fmul a b).uf || q.uf) (decide (valF q.value = 0)) (decide (valF q.value < 0)))) := by
  simp only [mulPairFltOp, h, hq, ok_bind, toOutcome_ok, putFlags, pairFlags, FltResult.flags, isZeroF_eq_decide,
    isNegF_eq_decide]
  rfl

theorem mulPairIntOp_completes {f : Word → Word → IntResult} {a b c d m x : Word} {o v : Bool} {cy : Option Bool}
    (h : mulPairInt p s = .ok (a, b, c, d, s1)) (hm : mulWords a b s1 = (⟨m, none, o⟩, s2)) (hq : f c d = ⟨x, cy, v⟩) :
    toOutcome (mulPairIntOp f p s) =
      .next (sequential (((s2.setR (mulDst p) ((s2.rn (mulDst p)).extractLsb' 32 8 ++ m)).setR (addDst p)
        ((s2.rn (addDst p)).extractLsb' 32 8 ++ x)).pairFlags (o || v) false (decide (x = 0#32)) x.msb)) := by
  simp only [mulPairIntOp, h, hm, hq, ok_bind, toOutcome_ok, State.rn_setR, if_neg (mulDst_ne_addDst p)]
  rfl

theorem guardMul_operands (h : (pairIndirects p).length ≠ 2) : guardMul p = refuse .parallelOperands := by
  unfold guardMul
  split
  next i j hp => simp [hp] at h
  next => rfl

theorem mulPairFltOp_refused (h : (pairIndirects p).length ≠ 2) (f : Ext → Ext → FltResult) (s : State) :
    toOutcome (mulPairFltOp f p s) = .refused .parallelOperands := by
  simp only [mulPairFltOp, mulPairFlt, guardMul_operands h, refuse_bind, toOutcome_refuse]

theorem mulPairIntOp_refused (h : (pairIndirects p).length ≠ 2) (f : Word → Word → IntResult) (s : State) :
    toOutcome (mulPairIntOp f p s) = .refused .parallelOperands := by
  simp only [mulPairIntOp, mulPairInt, guardMul_operands h, refuse_bind, toOutcome_refuse]

theorem mul3Int_rn {x : FSrc3} {s0 : State} {v : Word} (h : mul3Int s0 x s = .ok (v, s1)) (n : Rn) :
    s1.rn n = s.rn n := (mul3Int_frame h).rn n

theorem mulPairInt_rn {a b c d : Word} (h : mulPairInt p s = .ok (a, b, c, d, s1)) (n : Rn) : s1.rn n = s.rn n := by
  simp only [mulPairInt, bind_ok, Prod.exists, Except.ok.injEq, Prod.mk.injEq] at h
  obtain ⟨_, -, _, t1, h1, _, t2, h2, _, t3, h3, _, t4, h4, -, -, -, -, rfl⟩ := h
  rw [mul3Int_rn h4, mul3Int_rn h3, mul3Int_rn h2, mul3Int_rn h1]

end

/-- The state after a product has the registers of the state before. -/
theorem mulWords_rn (a b : Word) (s : State) (n : Rn) : (mulWords a b s).2.rn n = s.rn n := by
  obtain ⟨d, h⟩ := mulWords_frame a b s
  rw [h]
  rfl

/-- Settles O60: the two shapes of the pairs at each function. -/
theorem multiplyWithAddOrSubtract : Obligations.MultiplyWithAddOrSubtract := by
  unfold Obligations.MultiplyWithAddOrSubtract
  refine ⟨fun s s1 p a b c d h => ⟨mulPairFltOp_completes h rfl, fun ho => ?_, fun ho => ?_⟩,
    fun s s1 p a b c d h s2 m o hcase => ?_,
    fun s p h => ⟨mulPairFltOp_refused h _ s, mulPairFltOp_refused h _ s, mulPairIntOp_refused h _ s,
      mulPairIntOp_refused h _ s⟩⟩
  · exact mulPairFltOp_completes h (subOrder_source ho _ _ _)
  · exact mulPairFltOp_completes h (subOrder_vendor ho _ _ _)
  · have hm : mulWords a b s1 = (⟨m, none, o⟩, s2) := by
      rcases hcase with ⟨hsmall, rfl, rfl, rfl⟩ | ⟨hsmall, rfl, rfl, rfl⟩
      · exact mulWords_small hsmall _
      · exact mulWords_free hsmall s1
    have hrn : ∀ n, s.rn n = s2.rn n := fun n => by
      rw [← mulPairInt_rn h, ← mulWords_rn a b s1, hm]
    simp only [hrn]
    refine ⟨mulPairIntOp_completes h hm (addWords_plain c d), fun ho => ?_, fun ho => ?_⟩
    · exact mulPairIntOp_completes h hm ((subOrder_source ho _ _ _).trans (subWords_plain c d))
    · exact mulPairIntOp_completes h hm ((subOrder_vendor ho _ _ _).trans (subWords_plain d c))

end Sys2Proof.Machine
end

section
/-! When an interrupt is taken, what a step does then, and when a run is over. -/
namespace Sys2Proof.Machine

variable {s s1 : State} {a : Addr} {i : Nat} {v : VectorRef}

/-! ### The first source that is enabled and pending -/

theorem firstSource_of {l : List Source} {k : Nat} (hi : l[i]? = some ⟨v, true, true⟩)
    (hbefore : ∀ j, j < i → ∀ x, l[j]? = some x → ¬(x.enabled = true ∧ x.pending = true)) :
    firstSource l k = some (k + i, v) := by
  induction l generalizing k i with
  | nil => simp at hi
  | cons y t ih =>
    cases i with
    | zero =>
      obtain rfl : y = ⟨v, true, true⟩ := by simpa using hi
      rfl
    | succ i =>
      have hy : ¬(y.enabled = true ∧ y.pending = true) := hbefore 0 i.succ_pos y rfl
      have ht := ih (k := k + 1) (by simpa using hi) fun j hj x hx => hbefore (j + 1) (by omega) x (by simpa using hx)
      rw [firstSource, if_neg (by simpa using hy), ht, Nat.add_assoc, Nat.add_comm 1]

theorem firstSource_iff {l : List Source} : firstSource l 0 = some (i, v) ↔
    l[i]? = some ⟨v, true, true⟩ ∧ ∀ j, j < i → ∀ x, l[j]? = some x → ¬(x.enabled = true ∧ x.pending = true) := by
  constructor
  · intro h
    obtain ⟨-, ⟨⟨vector, enabled, pending⟩, hx, rfl, rfl, rfl⟩, hbefore⟩ := firstSource_some h
    exact ⟨hx, fun j hj x hl => by simpa using hbefore j x hj hl⟩
  · rintro ⟨hi, hbefore⟩
    simpa using firstSource_of (k := 0) hi hbefore

theorem takeable_iff : s.takeable = some (i, v) ↔
    s.st.gie = true ∧ s.pend = none ∧ s.rpts = .off ∧ s.sources[i]? = some ⟨v, true, true⟩ ∧
      ∀ j, j < i → ∀ x, s.sources[j]? = some x → ¬(x.enabled = true ∧ x.pending = true) := by
  rw [← firstSource_iff]
  refine ⟨takeable_some, fun ⟨hg, hp, hr, hf⟩ => ?_⟩
  simp [State.takeable, hg, hp, hr, hf]

/-! ### The free bit -/

theorem decideInterrupt_none (s : State) : decideInterrupt none s = (none, s) := rfl

theorem decideInterrupt_later {p : Option (Nat × VectorRef)} (hp : p ≠ none) (h : Config.freeBit s.draws = false) :
    decideInterrupt p s = (none, s.tick) := by
  obtain ⟨x, rfl⟩ := Option.ne_none_iff_exists'.mp hp
  simp [decideInterrupt, h]

theorem decideInterrupt_now (x : Nat × VectorRef) (h : Config.freeBit s.draws = true) :
    decideInterrupt (some x) s = (some x, s.tick) := by
  simp [decideInterrupt, h]

/-! ### What a step does -/

theorem step_of_running (h : (sampleInputs s).waiting = none) : step s = runNext (sampleInputs s) := by
  simp only [step, advance, h]

theorem step_of_waiting {w : Waiting} (h : (sampleInputs s).waiting = some w) :
    step s = toOutcome (resume w (sampleInputs s)) := by
  simp only [step, advance, h]

theorem runNext_none (h : s.takeable = none) : runNext s = fetchExec s := by
  simp only [runNext, h, decideInterrupt_none]

theorem runNext_later (h : s.takeable ≠ none) (hb : Config.freeBit s.draws = false) :
    runNext s = fetchExec s.tick := by
  simp only [runNext, decideInterrupt_later h hb]

theorem runNext_now (h : s.takeable = some (i, v)) (hb : Config.freeBit s.draws = true) :
    runNext s = toOutcome (enterInterrupt i v s.pc s.tick) := by
  simp only [runNext, h, decideInterrupt_now _ hb]
  rfl

theorem resumeIdle_none (h : s.takeable = none) : resumeIdle s = .ok s := by
  simp only [resumeIdle, h, decideInterrupt_none]

theorem resumeIdle_later (h : s.takeable ≠ none) (hb : Config.freeBit s.draws = false) :
    resumeIdle s = .ok s.tick := by
  simp only [resumeIdle, decideInterrupt_later h hb]

theorem resumeIdle_now (h : s.takeable = some (i, v)) (hb : Config.freeBit s.draws = true) :
    resumeIdle s = enterInterrupt i v s.pc (sequential { s.tick with pc := s.pc - 1, waiting := none }) := by
  simp only [resumeIdle, h, decideInterrupt_now _ hb]

theorem step_of_idle {w : Waiting} (h : (sampleInputs s).waiting = some w) (hw : w = .idle ∨ w = .idle2) :
    step s = toOutcome (resumeIdle (sampleInputs s)) := by
  rw [step_of_waiting h]
  rcases hw with rfl | rfl <;> rfl

/-- Settles O51: the first source that is enabled and pending, and the free bit that decides. -/
theorem whenInterruptsAreTaken : Obligations.WhenInterruptsAreTaken := by
  unfold Obligations.WhenInterruptsAreTaken
  refine ⟨fun s i v => takeable_iff, fun s => ?_, fun s w => ?_⟩
  · intro s0 hw
    rw [step_of_running hw]
    exact ⟨runNext_none, fun i v ht => ⟨runNext_later (by simp [ht]), runNext_now ht⟩⟩
  · intro s0 hw hidle
    rw [step_of_idle hw hidle]
    exact ⟨fun ht => congrArg toOutcome (resumeIdle_none ht), fun i v ht =>
      ⟨fun hb => congrArg toOutcome (resumeIdle_later (by simp [ht]) hb),
        fun hb => congrArg toOutcome (resumeIdle_now ht hb)⟩⟩

/-! ### A run that is over -/

/-- The state with no input left, once it is sampled (R45). -/
def State.quiet (s : State) : State := { s with between := [] }

theorem sampleInputs_nil (h : s.env = []) : sampleInputs s = s.quiet := by
  simp only [sampleInputs, h, State.quiet]

/-- The quiet state, with a word fetched at `pc`. -/
def State.refetched (s : State) (w : Word) : State := s.quiet.fetched s.quiet w

theorem contents_quiet (s : State) (r : Reg) : s.quiet.contents r = s.contents r := by
  cases r <;> rfl

theorem contents_refetched (s : State) (w : Word) (r : Reg) : (s.refetched w).contents r = s.contents r := by
  cases r <;> rfl

theorem canDeliver_eq (h : s.env = []) : s.canDeliver = s.takeable.isSome := by
  rw [State.canDeliver, h, State.takeable]
  split
  next hc => simp only [hc, deliverable, Bool.true_and]
  next hc => simp only [Bool.not_eq_true] at hc; simp only [hc, Bool.false_and, Option.isSome_none]

theorem runOver_of_idle {w : Waiting} (h : s.waiting = some w) (hw : w = .idle ∨ w = .idle2) (henv : s.env = []) :
    s.runOver = true ↔ s.takeable = none := by
  have hover : s.runOver = !s.canDeliver := by rcases hw with rfl | rfl <;> simp only [State.runOver, h]
  simp [hover, canDeliver_eq henv]

/-- The instruction is an unconditional branch to a. -/
def BranchesTo (a : Addr) (s : State) (i : Instr) : Prop :=
  i = .br a ∨ ∃ x, i = .bcond .u x ∧ target s.params.branchBase.bcond x s = .ok a

/-- The target of a branch depends on the registers, `pc` and the parameters alone. -/
theorem target_refetched (k : Nat) (x : Csrc) (s : State) (w : Word) : target k x (s.refetched w) = target k x s := by
  cases x with
  | disp => rfl
  | reg r => cases r <;> rfl

theorem BranchesTo.refetched {j : Instr} (h : BranchesTo a s j) (w : Word) : BranchesTo a (s.refetched w) j :=
  h.imp_right fun ⟨x, hx, ht⟩ => ⟨x, hx, (target_refetched _ x s w).trans ht⟩

theorem runOver_of_running (h : s.waiting = none) : s.runOver = true ↔
    s.pend = none ∧ s.rpts = .off ∧ ∃ s1 i, fetch s = .ok s1 ∧ decode s1.ir = .ok i ∧ BranchesTo s.pc s i := by
  simp only [State.runOver, h, Bool.and_eq_true, Option.isNone_iff_eq_none, beq_iff_eq, and_assoc, BranchesTo]
  refine and_congr_right fun _ => and_congr_right fun _ => ?_
  cases hf : fetch s with
  | error => simp
  | ok s1 =>
    simp only [Except.ok.injEq, exists_eq_left', exists_and_left]
    cases hd : decode s1.ir with
    | error => simp
    | ok j =>
      simp only [Except.ok.injEq, exists_eq_left']
      split
      next b hb => cases hb; simp
      next c hc =>
        cases hc
        cases ht : target s.params.branchBase.bcond c s with
        | error => simp [ht]
        | ok t => simp [ht]
      next hbr hbc hq =>
        cases hq
        simp only [Bool.false_eq_true, false_iff]
        rintro (hj | ⟨c, hj, -⟩)
        · exact hbr _ hj
        · exact hbc _ hj
      next he => cases he

theorem exec_branchesTo {j : Instr} (hp : s.pend = none) (hr : s.rpts = .off) (h : BranchesTo a s j) :
    exec j s = .next (jump a s) := by
  obtain rfl | ⟨x, rfl, ht⟩ := h
  · exact br_completes hp hr
  · exact (bcond_completes hp hr ht).trans rfl

/-- A fetch outside RPTS, not from a peripheral, takes the word in memory. -/
theorem fetch_plain (hr : s.rpts = .off) (hk : s.kindAt s.pc ≠ .peripheral) (h : fetch s = .ok s1) :
    s.pc.toNat ∉ s.stored ∧ s.kindAt s.pc ≠ .unmapped ∧ s1 = s.fetched s (s.mem.read s.pc.toNat) := by
  simp only [fetch, hr, fetchWord] at h
  obtain ⟨hs, h⟩ := need_bind_ok.mp h
  obtain ⟨⟨w, s2⟩, hread, h⟩ := bind_ok.mp h
  cases h
  obtain ⟨hmapped, ⟨hper, -⟩ | ⟨-, rfl, rfl⟩⟩ := memRead_cases hread
  · exact absurd hper hk
  · exact ⟨by simpa using hs, hmapped, rfl⟩

/-- The step of a branch to itself comes back to where it was: only IR, the program and the inputs of the step differ. -/
theorem step_of_branch (hw : s.waiting = none) (hover : s.runOver = true) (henv : s.env = []) (ht : s.takeable = none)
    (hk : s.kindAt s.pc ≠ .peripheral) :
    ∃ w, step s = .next (s.refetched w) ∧ (s.refetched w).runOver = true := by
  obtain ⟨hp, hr, s1, j, hf, hd, hj⟩ := (runOver_of_running hw).mp hover
  obtain ⟨hs, hmapped, rfl⟩ := fetch_plain hr hk hf
  let w := s.mem.read s.pc.toNat
  have hsample := sampleInputs_nil henv
  have hfetch : fetch s.quiet = .ok (s.refetched w) := fetch_of_off hr hs (memRead_plain hmapped hk)
  have hagain : fetch (s.refetched w) = .ok ((s.refetched w).fetched (s.refetched w) w) :=
    fetch_of_off hr hs (memRead_plain hmapped hk)
  refine ⟨w, ?_, (runOver_of_running (s := s.refetched w) hw).mpr ⟨hp, hr, _, j, hagain, hd, hj.refetched w⟩⟩
  calc step s = fetchExec s.quiet := by rw [step_eq_fetchExec (hsample ▸ hw) (hsample ▸ ht), hsample]
    _ = execWord (s.refetched w) := fetchExec_of_fetch (s := s.quiet) (.inl hp) hfetch
    _ = exec j (s.refetched w) := execWord_of_decode (s := s.refetched w) hd
    _ = .next (jump s.pc (s.refetched w)) := exec_branchesTo hp hr (hj.refetched w)

theorem step_of_idle_over {w : Waiting} (hw : s.waiting = some w) (hidle : w = .idle ∨ w = .idle2) (henv : s.env = [])
    (ht : s.takeable = none) : step s = .next s.quiet := by
  have hsample := sampleInputs_nil henv
  rw [step_of_idle (hsample ▸ hw) hidle, hsample, resumeIdle_none (s := s.quiet) ht, toOutcome_ok]

/-- The run is over only where a branch stands, or an IDLE waits. -/
theorem idle_of_runOver {w : Waiting} (hw : s.waiting = some w) (h : s.runOver = true) : w = .idle ∨ w = .idle2 := by
  cases w <;> simp_all [State.runOver]

/-- Settles O50: the step of a branch to itself and that of an IDLE come back to the same state, but for IR, the program
and the inputs of the step. -/
theorem endOfRun : Obligations.EndOfRun := by
  unfold Obligations.EndOfRun
  refine ⟨fun s hover henv ht hk => ?_, fun s w s1 hw hp hr hs hread => ⟨fun hd => ?_, fun a hd hne => ?_⟩,
    fun s hw henv => runOver_of_idle hw (.inl rfl) henv⟩
  · cases hw : s.waiting with
    | none =>
      obtain ⟨w, hstep, hagain⟩ := step_of_branch hw hover henv ht (hk hw)
      exact ⟨_, hstep, hagain, rfl, rfl, contents_refetched s w⟩
    | some w =>
      have hidle := idle_of_runOver hw hover
      exact ⟨_, step_of_idle_over hw hidle henv ht, (runOver_of_idle (s := s.quiet) hw hidle henv).mpr ht, rfl,
        rfl, contents_quiet s⟩
  · exact (runOver_of_running hw).mpr ⟨hp, hr, _, _, fetch_of_off hr hs hread, hd, .inl rfl⟩
  · refine Bool.eq_false_iff.mpr fun hover => ?_
    obtain ⟨-, -, s2, j, hf, hdj, hj⟩ := (runOver_of_running hw).mp hover
    rw [fetch_of_off hr hs hread] at hf
    cases hf
    rw [State.fetched, hd] at hdj
    cases hdj
    obtain heq | ⟨x, heq, -⟩ := hj
    · exact hne (Instr.br.inj heq)
    · cases heq

end Sys2Proof.Machine
end

section
/-! Interrupt entry, and the interlocked instructions on the bus. -/
namespace Sys2Proof.Machine

variable {s s1 s2 u : State} {a : Addr} {w : Word} {n : Rn} {r : Reg}

/-! ### What inputs do to the sources -/

theorem getElem?_setRequests (is : List Nat) (l : List Source) (k : Nat) :
    (setRequests is l)[k]? = l[k]?.map fun x => { x with pending := x.pending || decide (k ∈ is) } := by
  induction is generalizing l with
  | nil => simp [setRequests]
  | cons i t ih =>
    rw [setRequests, ih, getElem?_setSource]
    by_cases h : i = k
    · simp [h, Function.comp_def]
    · simp [h, Ne.symm h]

/-- Whether source k is enabled after a list of enables, of which the last for k decides. -/
def enableAfter (k : Nat) : List (Nat × Bool) → Bool → Bool
  | [], b => b
  | (i, c) :: t, b => enableAfter k t (if i = k then c else b)

theorem getElem?_setEnables (es : List (Nat × Bool)) (l : List Source) (k : Nat) :
    (setEnables es l)[k]? = l[k]?.map fun x => { x with enabled := enableAfter k es x.enabled } := by
  induction es generalizing l with
  | nil => simp [setEnables, enableAfter]
  | cons e t ih =>
    obtain ⟨i, c⟩ := e
    rw [setEnables, ih, getElem?_setSource]
    by_cases h : i = k
    · simp [h, enableAfter, Function.comp_def]
    · simp [h, enableAfter]

theorem enableAfter_unnamed {k : Nat} {es : List (Nat × Bool)} (h : ∀ b, (k, b) ∉ es) (b : Bool) :
    enableAfter k es b = b := by
  induction es generalizing b with
  | nil => rfl
  | cons e t ih =>
    obtain ⟨i, c⟩ := e
    have hne : i ≠ k := fun hik => h c (hik ▸ List.mem_cons_self)
    rw [enableAfter, if_neg hne]
    exact ih (fun b hb => h b (List.mem_cons_of_mem _ hb)) b

theorem enableAfter_last {k : Nat} {later : List (Nat × Bool)} (h : ∀ c, (k, c) ∉ later) (before : List (Nat × Bool))
    (b c : Bool) : enableAfter k (before ++ (k, c) :: later) b = c := by
  induction before generalizing b with
  | nil => rw [List.nil_append, enableAfter, if_pos rfl, enableAfter_unnamed h]
  | cons e t ih => exact ih _

theorem getElem?_onSources (e : EnvInput) {l : List Source} {k : Nat} {x : Source} (h : l[k]? = some x) :
    (e.onSources l)[k]? = some ⟨x.vector, enableAfter k e.enables x.enabled, x.pending || decide (k ∈ e.irqs)⟩ := by
  rw [EnvInput.onSources, getElem?_setRequests, getElem?_setEnables, h]
  rfl

/-! ### Interrupt entry -/

theorem enterInterrupt_completes {i : Nat} {v : VectorRef} {ret : Addr} (hv : vectorAddress v s = .ok (a, s1))
    (hw : s.writable (low24 (s.sp + 1))) :
    enterInterrupt i v ret s = .ok { s1.store (low24 (s.sp + 1)) (ret.setWidth 32) with
      sp := s.sp + 1, st := { s.st with gie := false }, pc := a,
      sources := setSource (fun x => { x with pending := false }) i s.sources } := by
  have hdraws := vectorAddress_frame hv
  simp only [enterInterrupt, hv, ok_bind, enter_completes hdraws hw]
  obtain ⟨d, rfl⟩ := hdraws
  rfl

/-- Settles O52: the entry after the read of the vector, and the lists of an input as maps over the sources. -/
theorem interruptEntry : Obligations.InterruptEntry := by
  unfold Obligations.InterruptEntry
  refine ⟨fun s s1 i v ret a => enterInterrupt_completes, fun s a => ⟨rfl, fun w s1 hr => ?_⟩, fun f i k l => ?_,
    fun e l k x hx => ⟨_, getElem?_onSources e hx, rfl, by simp, fun h => enableAfter_unnamed h _, ?_⟩⟩
  · simp only [vectorAddress, hr, ok_bind]
    rfl
  · simp only [getElem?_setSource, eq_comm]
  · intro b before later he hlater
    show enableAfter k e.enables x.enabled = b
    rw [he, enableAfter_last hlater]

/-! ### The access of an interlocked instruction -/

theorem finishLdfi_of (h : memRead a s = .ok (w, s1)) (n : Rn) :
    finishLdfi a n s = .ok (s1.floatLoad n (w ++ 0#8)) := by
  simp only [finishLdfi, h, ok_bind, putLoadFlt, putFlt_eq]
  rfl

theorem finishLdii_of (h : memRead a s = .ok (w, s1)) (hu : s1.integerWrite .loadInt r w none false = .ok u) :
    finishLdii a r s = .ok u := by
  simp only [finishLdii, h, ok_bind, putInt_eq]
  exact hu

theorem complete_of {access : Res State} (h : access = .ok u) : complete access = .ok (sequential u) := by
  simp only [complete, h, ok_bind]

section
variable {go : Bool} {plain driven : Res State} {wait : State}

theorem interlocked_acts (h : driven = .ok u) : interlocked true true plain driven wait = .ok (sequential u) :=
  complete_of h

theorem interlocked_waits : interlocked true false plain driven wait = .ok wait := rfl

end

theorem acknowledged_of (hr : ready a s = true) (hx : s.xf1 = false) : acknowledged a s = true := by
  simp [acknowledged, hr, hx]

theorem not_acknowledged (h : ready a s = false ∨ s.xf1 = true) : acknowledged a s = false := by
  rcases h with h | h <;> simp [acknowledged, h]

section
variable {m : MemOp} (h : ea m s = .ok (a, s1)) (hbus : onBus a s = true)
include h hbus

theorem ldfi_acts (hack : acknowledged a s = true) (n : Rn)
    (hread : memRead a { s1.driveXf0 false with lock := true } = .ok (w, s2)) :
    exec (.ldfi m n) s = .next (sequential (s2.floatLoad n (w ++ 0#8))) := by
  rw [exec_ldfi h, hbus, hack]
  exact congrArg toOutcome (interlocked_acts (finishLdfi_of hread n))

theorem ldfi_waits (hack : acknowledged a s = false) (n : Rn) :
    exec (.ldfi m n) s = .next { s1.driveXf0 false with waiting := some (.ldfi a n) } := by
  rw [exec_ldfi h, hbus, hack]
  rfl

theorem ldii_acts (hack : acknowledged a s = true) (hcl : memClobbers m r = false)
    (hread : memRead a { s1.driveXf0 false with lock := true } = .ok (w, s2))
    (hu : s2.integerWrite .loadInt r w none false = .ok u) : exec (.ldii m r) s = .next (sequential u) := by
  have hnamed : namedReg r = true := putInt_named (r := plainResult w) ((putInt_eq r (plainResult w) s2).trans hu)
  have haccess : finishLdii a r (s1.driveXf0 false).acquire = .ok u := finishLdii_of hread hu
  rw [exec_ldii h, hbus, hack]
  simp only [guardDest, hcl, hnamed, Bool.not_false, need_true, ok_bind, interlocked_acts haccess, toOutcome_ok]

theorem ldii_waits (hack : acknowledged a s = false) (hcl : memClobbers m r = false) (hr : namedReg r = true) :
    exec (.ldii m r) s = .next { s1.driveXf0 false with waiting := some (.ldii a r) } := by
  rw [exec_ldii h, hbus, hack]
  simp only [guardDest, hcl, hr, Bool.not_false, need_true, ok_bind, interlocked_waits, toOutcome_ok]

theorem storeInterlocked_acts (hr : ready a s = true) (hp : s.inProgram a = false) (v : Word) :
    storeInterlocked v m s = .ok (sequential ((s1.driveXf0 true).store a v)) := by
  have hmapped : s.kindAt a ≠ .unmapped := fun hk => by simp [onBus, hk] at hbus
  obtain ⟨ar, d, rfl, -⟩ := ea_frame h
  rw [storeInterlocked_eq h, hbus, hr]
  exact interlocked_acts (memWrite_plain v hmapped hp)

theorem storeInterlocked_waits (hr : ready a s = false) (v : Word) :
    storeInterlocked v m s = .ok { s1.driveXf0 true with waiting := some (.store a v) } := by
  rw [storeInterlocked_eq h, hbus, hr]
  rfl

end

theorem exec_stii_of {m : MemOp} (hw : readInt r s = .ok w) : exec (.stii r m) s = toOutcome (storeInterlocked w m s) :=
  congrArg (fun x => toOutcome (x >>= fun v => storeInterlocked v m s)) hw

/-- Settles O54: the two ways on the bus, the access with XF0 driven and the wait. -/
theorem interlockedLoadsAndStores : Obligations.InterlockedLoadsAndStores := by
  unfold Obligations.InterlockedLoadsAndStores
  refine ⟨fun s => ⟨rfl, rfl⟩, fun s a => ⟨fun hk => by simp [ready, hk], fun hk => ?_, fun hk => by simp [ready, hk]⟩,
    fun s s1 m a h hbus => ⟨fun hr hx w s2 hread => ⟨fun n => ?_, fun r u hcl hu => ?_⟩, fun hwait => ⟨fun n => ?_, fun r => ?_⟩⟩,
    fun s s1 m a h hbus => ⟨fun hr hp => ⟨fun n => ?_, fun r v hv => ?_⟩, fun hr => ⟨fun n => ?_, fun r v hv => ?_⟩⟩⟩
  · rcases hk with hk | hk <;> simp [ready, hk]
  · exact ldfi_acts h hbus (acknowledged_of hr hx) n hread
  · exact ldii_acts h hbus (acknowledged_of hr hx) hcl hread hu
  · exact ldfi_waits h hbus (not_acknowledged hwait) n
  · exact ldii_waits h hbus (not_acknowledged hwait)
  · exact congrArg toOutcome (storeInterlocked_acts h hbus hr hp _)
  · exact (exec_stii_of hv).trans (congrArg toOutcome (storeInterlocked_acts h hbus hr hp v))
  · exact congrArg toOutcome (storeInterlocked_waits h hbus hr _)
  · exact (exec_stii_of hv).trans (congrArg toOutcome (storeInterlocked_waits h hbus hr v))

/-! ### SIGI -/

theorem awaitSigi_done (h : s.xf1 = false) : awaitSigi s = .ok (sequential { s.driveXf0 true with waiting := none }) := by
  simp [awaitSigi, h]

theorem awaitSigi_waits (h : s.xf1 = true) (ht : s.takeable = none) :
    awaitSigi s = .ok { s with waiting := some .sigi } := by
  simp [awaitSigi, h, ht]

theorem awaitSigi_refused (h : s.xf1 = true) (ht : s.takeable ≠ none) : awaitSigi s = refuse .sigiInterrupted := by
  obtain ⟨x, hx⟩ := Option.ne_none_iff_exists'.mp ht
  simp [awaitSigi, h, hx]

theorem exec_sigi (hp : s.pend = none) (hr : s.rpts = .off) : exec .sigi s = toOutcome (awaitSigi (s.driveXf0 false)) := by
  show toOutcome _ = _
  simp only [guardControl_pass hp hr, ok_bind]

/-- Settles O55: SIGI awaits XF1, from its start or going on. -/
theorem sigi : Obligations.Sigi := by
  unfold Obligations.Sigi
  refine ⟨fun s hp hr => ?_, fun s => ?_⟩
  · rw [exec_sigi hp hr]
    exact ⟨fun hx => congrArg toOutcome (awaitSigi_done (s := s.driveXf0 false) hx),
      fun hx ht => congrArg toOutcome (awaitSigi_waits (s := s.driveXf0 false) hx ht),
      fun hx ht => congrArg toOutcome (awaitSigi_refused (s := s.driveXf0 false) hx ht)⟩
  · intro s0 hw
    have hkeep : { s0 with waiting := some .sigi } = s0 := by rw [← hw]
    rw [step_of_waiting hw]
    exact ⟨fun hx => congrArg toOutcome (awaitSigi_done hx),
      fun hx ht => congrArg toOutcome ((awaitSigi_waits hx ht).trans (congrArg _ hkeep)),
      fun hx ht => congrArg toOutcome (awaitSigi_refused hx ht)⟩

end Sys2Proof.Machine
end

section
/-! How a waiting interlocked load or store goes on. -/
namespace Sys2Proof.Machine

variable {s s1 s2 u : State} {a : Addr} {w : Word} {i : Nat} {v : VectorRef} {finish : State → Res State}

theorem loadExit_iff : s.loadExit = some (i, v) ↔
    s.st.gie = true ∧ s.pend = none ∧ (s.rpts = .off ∨ (s.atRepeatEnd = true ∧ s.rc = 0#32)) ∧
      s.sources[i]? = some ⟨v, true, true⟩ ∧
      ∀ j, j < i → ∀ x, s.sources[j]? = some x → ¬(x.enabled = true ∧ x.pending = true) := by
  simp only [State.loadExit, Option.ite_none_right_eq_some, Bool.and_eq_true, Bool.or_eq_true, beq_iff_eq,
    Option.isNone_iff_eq_none, firstSource_iff, and_assoc]

/-! ### A waiting load -/

theorem resumeLoad_notReady (hr : ready a s = false) : resumeLoad a finish s = .ok s := by
  simp [resumeLoad, hr]

theorem resumeLoad_none (hr : ready a s = true) (hx : s.xf1 = true) (he : s.loadExit = none) :
    resumeLoad a finish s = .ok s := by
  simp [resumeLoad, hr, hx, he, decideInterrupt_none]

theorem resumeLoad_later (hr : ready a s = true) (hx : s.xf1 = true) (he : s.loadExit ≠ none)
    (hb : Config.freeBit s.draws = false) : resumeLoad a finish s = .ok s.tick := by
  simp [resumeLoad, hr, hx, decideInterrupt_later he hb]

theorem resumeLoad_acknowledged (hr : ready a s = true) (hx : s.xf1 = false)
    (hf : finish { s with waiting := none, lock := true } = .ok u) : resumeLoad a finish s = .ok (sequential u) := by
  have hfinish : finish { s with waiting := none }.acquire = .ok u := hf
  rw [resumeLoad, if_pos hr, if_neg (by simp [hx]), hfinish, ok_bind]

theorem resumeLoad_exit (hr : ready a s = true) (hx : s.xf1 = true) (he : s.loadExit = some (i, v))
    (hb : Config.freeBit s.draws = true) (hf : finish { s.tick with waiting := none } = .ok u) :
    resumeLoad a finish s = enterInterrupt i v (s.pc + 1) { sequential u with rpts := .off } := by
  simp only [resumeLoad, hr, hx, he, decideInterrupt_now _ hb, hf, ok_bind, if_true]

/-- A load waits on, whichever register it loads. -/
theorem step_of_waiting_load {q : Waiting} (h : (sampleInputs s).waiting = some q)
    (hq : (∃ n, q = .ldfi a n) ∨ ∃ r, q = .ldii a r) :
    ∃ finish, step s = toOutcome (resumeLoad a finish (sampleInputs s)) := by
  rw [step_of_waiting h]
  obtain ⟨n, rfl⟩ | ⟨r, rfl⟩ := hq
  · exact ⟨_, rfl⟩
  · exact ⟨_, rfl⟩

/-! ### A waiting store -/

theorem resume_store_notReady (hr : ready a s = false) : resume (.store a w) s = .ok s := by
  simp [resume, hr]

theorem resume_store_ready (hr : ready a s = true) (hw : s.writable a) :
    resume (.store a w) s = .ok (sequential ({ s with waiting := none }.store a w)) := by
  have hstore := memWrite_plain (s := { s with waiting := none }) w hw.1 hw.2
  simp only [resume, hr, hstore, ok_bind, if_true]

/-- Settles O56: a load by ready, XF1, an interrupt that can end it and the free bit; a store by ready. -/
theorem endOfInterlockedWaits : Obligations.EndOfInterlockedWaits := by
  unfold Obligations.EndOfInterlockedWaits
  refine ⟨fun s a => ?_, fun s i v => loadExit_iff⟩
  intro s0 s1 exit
  refine ⟨fun q hq hload => ?_, fun n hw hr => ?_, fun r hw hr => ?_, fun v hw => ?_⟩
  · obtain ⟨p, rfl⟩ : ∃ p, q = some p := by
      obtain ⟨n, hn⟩ | ⟨r, hr⟩ := hload
      · exact ⟨_, hn⟩
      · exact ⟨_, hr⟩
    obtain ⟨finish, hstep⟩ := step_of_waiting_load hq.symm (by simpa using hload)
    rw [hstep]
    exact ⟨fun hr => congrArg toOutcome (resumeLoad_notReady hr),
      fun hr hx he => congrArg toOutcome (resumeLoad_none hr hx he),
      fun hr hx he hb => congrArg toOutcome (resumeLoad_later hr hx he hb)⟩
  · rw [step_of_waiting hw]
    exact ⟨fun hx w s2 hread => congrArg toOutcome (resumeLoad_acknowledged hr hx (finishLdfi_of hread n)),
      fun hx i v he hb w s2 hread => congrArg toOutcome (resumeLoad_exit hr hx he hb (finishLdfi_of hread n))⟩
  · rw [step_of_waiting hw]
    exact ⟨fun hx w s2 u hread hu => congrArg toOutcome (resumeLoad_acknowledged hr hx (finishLdii_of hread hu)),
      fun hx i v he hb w s2 u hread hu => congrArg toOutcome (resumeLoad_exit hr hx he hb (finishLdii_of hread hu))⟩
  · rw [step_of_waiting hw]
    exact ⟨fun hr => congrArg toOutcome (resume_store_notReady hr),
      fun hr hwr => congrArg toOutcome (resume_store_ready hr hwr)⟩

end Sys2Proof.Machine
end

section
/-!
Float results are exact where they are representable (R166 P1, P4): the bracket of a representable number says so, and its
lower side is then the number itself.
-/
namespace Sys2Proof.Machine

/-! ### The bracket of a representable number -/

theorem exact_of_mem_rep {p : ℕ} {d : Dy} (h : d.val ∈ Rep p) : (bracket p d).exact = true := by
  by_cases h0 : d.m = 0
  · rw [bracket, if_pos h0]
  obtain hzero | ⟨q, e, hf, hval⟩ := h
  · exact absurd (d.m_eq_zero_iff.mpr hzero) h0
  have hbin := inBinade_normExp d h0
  have hbin' : InBinade e d.val := hval ▸ normal_iff_inBinade.mp hf.normal
  obtain rfl : normExp d = e := le_antisymm (hbin.exp_le hbin') (hbin'.exp_le hbin)
  have hscaled : Dy.val ⟨d.m, d.k - (normExp d - p)⟩ = d.val * 2 ^ (p - normExp d : ℤ) := by
    rw [Dy.val, Dy.val, mul_assoc, ← zpow_add₀ two_ne_zero, sub_eq_add_neg, neg_sub]
  have hq : (q : ℚ) = d.val * 2 ^ (p - normExp d : ℤ) := floatVal_eq_iff.mp hval
  rw [bracket_in_range h0 hf.le_exp hf.exp_le]
  simp only [Dy.floor_snd, hscaled, ← hq, Int.floor_intCast]

/-- A representable number is the lower side of its bracket. -/
theorem below_of_mem_rep {p : ℕ} (hp : p ≤ 31) {d : Dy} (h : d.val ∈ Rep p) :
    ∃ pt, (bracket p d).below = some pt ∧ pt.val = d.val := by
  have hbelow := (isBracket_bracket hp d).below
  match hb : (bracket p d).below with
  | none =>
    rw [hb] at hbelow
    exact absurd ⟨h, le_rfl⟩ (hbelow d.val)
  | some pt =>
    rw [hb] at hbelow
    exact ⟨pt, rfl, le_antisymm hbelow.2.1.2 (hbelow.2.2 ⟨h, le_rfl⟩)⟩

/-! ### The operations -/

/-- The result has the value v, with V' = 0 and UF' = 0. -/
def FltResult.IsExact (r : FltResult) (v : ℚ) : Prop := valF r.value = v ∧ r.v = false ∧ r.uf = false

theorem exactResult_isExact (op : FloatOp) (a b : Ext) (pt : Point) : (exactResult op a b pt).IsExact pt.val :=
  ⟨valF_realise op a b pt, rfl, rfl⟩

theorem roundExt_isExact {d : Dy} (h : d.val ∈ Rep 31) (op : FloatOp) (a b : Ext) :
    (roundExt op a b d).IsExact d.val := by
  obtain ⟨pt, hb, hval⟩ := below_of_mem_rep (le_refl 31) h
  rw [roundExt, exact_of_mem_rep h, hb, ← hval]
  exact exactResult_isExact op a b pt

theorem fadd_isExact {a b : Ext} (h : valF a + valF b ∈ Rep 31) : (fadd a b).IsExact (valF a + valF b) := by
  have hval : ((dyOf a).add (dyOf b)).val = valF a + valF b := by rw [Dy.val_add, val_dyOf, val_dyOf]
  exact hval ▸ roundExt_isExact (hval ▸ h) .add a b

theorem fsub_isExact {a b : Ext} (h : valF a - valF b ∈ Rep 31) : (fsub a b).IsExact (valF a - valF b) := by
  have hval : ((dyOf a).add (dyOf b).neg).val = valF a - valF b := by
    rw [Dy.val_add, Dy.val_neg, val_dyOf, val_dyOf, sub_eq_add_neg]
  exact hval ▸ roundExt_isExact (hval ▸ h) .sub a b

theorem fmul_isExact {a b : Ext} (ha : isSingle a = true) (hb : isSingle b = true) (h : valF a * valF b ∈ Rep 31) :
    (fmul a b).IsExact (valF a * valF b) := by
  have hval : ((dyOf a).mul (dyOf b)).val = valF a * valF b := by rw [Dy.val_mul, val_dyOf, val_dyOf]
  rw [fmul]
  split
  next hz =>
    have h0 : valF a * valF b = 0 := by
      obtain hz | hz := Bool.or_eq_true_iff.mp hz
      · rw [valF_of_zero hz, zero_mul]
      · rw [valF_of_zero hz, mul_zero]
    rw [h0, ← Point.val_zero]
    exact exactResult_isExact .mul a b .zero
  next hz =>
    rw [← hval] at h ⊢
    obtain ⟨pt, hbelow, hpt⟩ := below_of_mem_rep (le_refl 31) h
    simp only [ha, hb, exact_of_mem_rep h, hbelow, Bool.and_self, ← hpt]
    exact exactResult_isExact .mul a b pt

/-- The magnitude of the most negative float is not representable (R150). -/
theorem valF_mostNegF : valF mostNegF = -2 ^ (128 : ℤ) := by
  simp [mostNegF, valF, expField]
  norm_num

theorem neg_mostNegF_not_mem_rep : -valF mostNegF ∉ Rep 31 := fun h => by
  rw [valF_mostNegF, neg_neg] at h
  exact (lt_of_mem_rep h).false

theorem fneg_isExact {a : Ext} (h : -valF a ∈ Rep 31) : (fneg a).IsExact (-valF a) := by
  have hne : a ≠ mostNegF := fun ha => neg_mostNegF_not_mem_rep (ha ▸ h)
  have hval : (dyOf a).neg.val = -valF a := by rw [Dy.val_neg, val_dyOf]
  rw [fneg, if_neg hne]
  exact hval ▸ roundExt_isExact (hval ▸ h) .neg a 0

theorem fabs_isExact {a : Ext} (h : |valF a| ∈ Rep 31) : (fabs a).IsExact |valF a| := by
  have hval : (dyOf a).abs.val = |valF a| := by rw [Dy.val_abs, val_dyOf]
  have hne : a ≠ mostNegF := by
    rintro rfl
    have hneg : valF mostNegF < 0 := valF_mostNegF ▸ neg_lt_zero.mpr (two_zpow_pos _)
    exact neg_mostNegF_not_mem_rep (abs_of_neg hneg ▸ h)
  rw [fabs, if_neg hne]
  exact hval ▸ roundExt_isExact (hval ▸ h) .abs a 0

/-- Settles O33: the value of a pattern is representable. -/
theorem floatOperationsAreExact : Obligations.FloatOperationsAreExact := by
  unfold Obligations.FloatOperationsAreExact
  intro a b z
  have hz := valF_mem_rep z
  exact ⟨fun h => h ▸ fadd_isExact (h ▸ hz), fun h => h ▸ fsub_isExact (h ▸ hz),
    fun ha hb h => h ▸ fmul_isExact ha hb (h ▸ hz), fun h => h ▸ fneg_isExact (h ▸ hz),
    fun h => h ▸ fabs_isExact (h ▸ hz)⟩

end Sys2Proof.Machine
end

section
/-!
The values of patterns by the formulas of the formats (R148, R151, R152), and the narrowing of a store (R153): the mantissa
rounded down to a multiple of 256, so the greatest single-format value not above the register's.
-/
namespace Sys2Proof.Machine

variable {x : Ext} {w : Word} {k : BitVec 16}

/-! ### One value in two formats -/

/-- Fraction bits of value 0 below the others leave a value as it is. -/
theorem formatValue_scale (lowest e : ℤ) (negative : Bool) (f m j : ℕ) :
    formatValue lowest e negative (f * 2 ^ j) (m + j) = formatValue lowest e negative f m := by
  have hf : ((f * 2 ^ j : ℕ) : ℚ) / 2 ^ (m + j) = f / 2 ^ m := by
    rw [Nat.cast_mul, Nat.cast_pow, Nat.cast_ofNat, pow_add, mul_div_mul_right _ _ (by positivity)]
  rw [formatValue, formatValue, hf]

theorem valF_eq_formatValue (x : Ext) :
    valF x = formatValue (-128) (expField x).toInt (x.getLsbD 31) (x.extractLsb' 0 31).toNat 31 := rfl

/-! ### Widening -/

theorem toNat_widen (w : Word) : (widen w).toNat = w.toNat * 2 ^ 8 :=
  (BitVec.toNat_append w 0#8).trans (by simp [Nat.shiftLeft_eq])

theorem expField_widen (w : Word) : expField (widen w) = w.extractLsb' 24 8 := by
  refine BitVec.eq_of_toNat_eq ?_
  simp only [expField, BitVec.extractLsb'_toNat, Nat.shiftRight_eq_div_pow, toNat_widen]
  omega

theorem sign_widen (w : Word) : (widen w).getLsbD 31 = w.getLsbD 23 := by
  rw [← BitVec.testBit_toNat, ← BitVec.testBit_toNat, toNat_widen, Nat.testBit_mul_two_pow]
  simp

theorem fraction_widen (w : Word) : ((widen w).extractLsb' 0 31).toNat = (w.extractLsb' 0 23).toNat * 2 ^ 8 := by
  simp only [BitVec.extractLsb'_toNat, Nat.shiftRight_zero, toNat_widen]
  omega

theorem valF_widen (w : Word) :
    valF (widen w) =
      formatValue (-128) (w.extractLsb' 24 8).toInt (w.getLsbD 23) (w.extractLsb' 0 23).toNat 23 := by
  rw [valF_eq_formatValue, expField_widen, sign_widen, fraction_widen]
  exact formatValue_scale _ _ _ _ 23 8

theorem toNat_widenShort (h : k.extractLsb' 12 4 ≠ 8#4) :
    (widenShort k).toNat = ((k.extractLsb' 12 4).signExtend 8).toNat * 2 ^ 32 + k.toNat % 2 ^ 12 * 2 ^ 20 := by
  have happend : (widenShort k).toNat =
      (((k.extractLsb' 12 4).signExtend 8 ++ k.extractLsb' 0 12) ++ 0#20).toNat := by
    rw [widenShort, if_neg h]
  have hlow : (k.extractLsb' 0 12).toNat = k.toNat % 2 ^ 12 := by simp [BitVec.extractLsb'_toNat]
  rw [happend, BitVec.toNat_append, BitVec.toNat_append, ← Nat.shiftLeft_add_eq_or_of_lt (k.extractLsb' 0 12).isLt, hlow]
  simp only [BitVec.toNat_ofNat, Nat.zero_mod, Nat.or_zero, Nat.shiftLeft_eq]
  omega

theorem expField_widenShort (h : k.extractLsb' 12 4 ≠ 8#4) :
    expField (widenShort k) = (k.extractLsb' 12 4).signExtend 8 := by
  refine BitVec.eq_of_toNat_eq ?_
  have hlt := ((k.extractLsb' 12 4).signExtend 8).isLt
  simp only [expField, BitVec.extractLsb'_toNat, Nat.shiftRight_eq_div_pow, toNat_widenShort h]
  omega

theorem fraction_widenShort (h : k.extractLsb' 12 4 ≠ 8#4) :
    ((widenShort k).extractLsb' 0 31).toNat = (k.extractLsb' 0 11).toNat * 2 ^ 20 := by
  simp only [BitVec.extractLsb'_toNat, Nat.shiftRight_zero, toNat_widenShort h]
  omega

theorem sign_widenShort (h : k.extractLsb' 12 4 ≠ 8#4) : (widenShort k).getLsbD 31 = k.getLsbD 11 := by
  have hmant : (mantField (widenShort k)).toNat = k.toNat % 2 ^ 12 * 2 ^ 20 := by
    simp only [mantField, BitVec.extractLsb'_toNat, Nat.shiftRight_zero, toNat_widenShort h]
    omega
  rw [← msb_mantField, BitVec.msb_eq_getLsbD_last, ← BitVec.testBit_toNat, ← BitVec.testBit_toNat, hmant,
    Nat.testBit_mul_two_pow, Nat.testBit_mod_two_pow]
  simp

/-- A short immediate that is not zero, with its exponent, its mantissa and the zeros below them. -/
theorem valF_widenShort_of_not_zero (h : k.extractLsb' 12 4 ≠ 8#4) :
    valF (widenShort k) =
      formatValue (-8) (k.extractLsb' 12 4).toInt (k.getLsbD 11) (k.extractLsb' 0 11).toNat 11 := by
  have hne : (k.extractLsb' 12 4).toInt ≠ -8 := fun he => h (BitVec.eq_of_toInt_eq he)
  have hlo := (k.extractLsb' 12 4).le_toInt
  have hexp : (expField (widenShort k)).toInt = (k.extractLsb' 12 4).toInt := by
    rw [expField_widenShort h, BitVec.toInt_signExtend_of_le (by decide)]
  have hscale := formatValue_scale (-8) (k.extractLsb' 12 4).toInt (k.getLsbD 11) (k.extractLsb' 0 11).toNat 11 20
  rw [valF_eq_formatValue, hexp, sign_widenShort h, fraction_widenShort h, ← hscale, formatValue, formatValue, if_neg hne, if_neg (by omega)]

theorem valF_widenShort (k : BitVec 16) :
    valF (widenShort k) =
      formatValue (-8) (k.extractLsb' 12 4).toInt (k.getLsbD 11) (k.extractLsb' 0 11).toNat 11 := by
  by_cases h : k.extractLsb' 12 4 = 8#4
  · have hzero : isZeroF (widenShort k) = true := by
      rw [widenShort, if_pos h]
      rfl
    rw [valF_of_zero hzero, formatValue, h]
    rfl
  · exact valF_widenShort_of_not_zero h

/-! ### Zero and sign -/

theorem valF_eq_zero_iff (x : Ext) : valF x = 0 ↔ expField x = 0x80#8 := by
  rw [← beq_iff_eq (a := expField x), ← isZeroF, isZeroF_eq_decide, decide_eq_true_iff]

theorem valF_neg_iff (h : valF x ≠ 0) : valF x < 0 ↔ x.getLsbD 31 = true := by
  have hz : isZeroF x = false := by rw [isZeroF_eq_decide, decide_eq_false h]
  rw [valF_of_not_zero hz, floatVal_lt_zero_iff, mantInt_lt_zero_iff, msb_mantField]

/-! ### Narrowing -/

theorem toNat_widen_narrow (x : Ext) : (widen (narrow x)).toNat = x.toNat / 256 * 256 := by
  have hlt := x.isLt
  simp only [toNat_widen, narrow, BitVec.extractLsb'_toNat, Nat.shiftRight_eq_div_pow]
  omega

theorem expField_widen_narrow (x : Ext) : expField (widen (narrow x)) = expField x := by
  refine BitVec.eq_of_toNat_eq ?_
  simp only [expField, BitVec.extractLsb'_toNat, Nat.shiftRight_eq_div_pow, toNat_widen_narrow]
  omega

theorem msb_mantField_widen_narrow (x : Ext) : (mantField (widen (narrow x))).msb = (mantField x).msb := by
  rw [msb_mantField, msb_mantField, sign_widen, narrow, BitVec.getLsbD_extractLsb']
  simp

theorem mantInt_widen_narrow (x : Ext) : mantInt (widen (narrow x)) = 256 * (mantInt x / 256) := by
  have hfraction : ((widen (narrow x)).extractLsb' 0 31).toNat = 256 * ((x.extractLsb' 0 31).toNat / 256) := by
    simp only [BitVec.extractLsb'_toNat, Nat.shiftRight_zero, toNat_widen_narrow]
    omega
  rw [mantInt_eq, mantInt_eq, msb_mantField_widen_narrow, hfraction]
  split <;> omega

theorem valF_widen_narrow (h : isZeroF x = false) :
    valF (widen (narrow x)) = floatVal 23 (mantInt x / 256) (expField x).toInt := by
  have hz : isZeroF (widen (narrow x)) = false := by rwa [isZeroF, expField_widen_narrow]
  rw [valF_of_not_zero hz, mantInt_widen_narrow, expField_widen_narrow, floatVal_single]

theorem narrow_of_zero (h : isZeroF x = true) : valF (widen (narrow x)) = valF x := by
  have hz : isZeroF (widen (narrow x)) = true := by rwa [isZeroF, expField_widen_narrow]
  rw [valF_of_zero h, valF_of_zero hz]

theorem normal_mantInt_div (x : Ext) : Normal 23 (mantInt x / 256) := by
  have hnormal := normal_mantInt x
  unfold Normal at *
  omega

theorem valF_widen_narrow_le (x : Ext) : valF (widen (narrow x)) ≤ valF x := by
  cases h : isZeroF x with
  | true => exact (narrow_of_zero h).le
  | false =>
    rw [valF_widen_narrow h, valF_of_not_zero h, ← floatVal_single, floatVal_le_iff]
    omega

/-- The narrowed value is the greatest of its format that is not above the register's. -/
theorem le_valF_widen_narrow {y : ℚ} (hy : y ∈ Rep 23) (h : y ≤ valF x) : y ≤ valF (widen (narrow x)) := by
  cases hz : isZeroF x with
  | true => exact h.trans (narrow_of_zero hz).ge
  | false =>
    by_contra hlt
    rw [not_le, valF_widen_narrow hz] at hlt
    have hnext := (le_of_mem_rep_of_lt (normal_mantInt_div x) hy hlt).trans h
    rw [valF_of_not_zero hz, ← floatVal_single, floatVal_le_iff] at hnext
    omega

theorem widen_narrow_eq (h : x.extractLsb' 0 8 = 0#8) : widen (narrow x) = x := by
  have hlow : x.toNat % 256 = 0 := by simpa [BitVec.toNat_eq] using h
  refine BitVec.eq_of_toNat_eq ?_
  rw [toNat_widen_narrow]
  omega

/-- Settles O32: the fields of each pattern, and a mantissa rounded down. -/
theorem floatFormatsZeroAndNarrowing : Obligations.FloatFormatsZeroAndNarrowing := by
  unfold Obligations.FloatFormatsZeroAndNarrowing
  exact ⟨valF_eq_formatValue, valF_widen, valF_widenShort, fun x => ⟨valF_eq_zero_iff x, valF_neg_iff⟩,
    fun x => ⟨valF_widen_narrow_le x, fun w => le_valF_widen_narrow (valF_widen_mem_rep w), widen_narrow_eq⟩⟩

end Sys2Proof.Machine
end
